-- ==== Sys2Proof/Word.lean ====
section
/-! DEFINITION. The word types of the display timing controller (spec/00_scope.md rules R9 and R10). -/

namespace Sys2Proof

/-- One byte: the width of every port and VRAM transfer (rule R9). -/
abbrev Byte := BitVec 8

/-- A transaction word (rule R81). -/
abbrev Word32 := BitVec 32

/-- A VRAM offset (rule R9: 16 bits). -/
abbrev Offset := BitVec 16

/-- A 14-bit cell address (rule R43). -/
abbrev CellAddr := BitVec 14

/-- An ink, an index into the 16-entry palette (00_scope.md glossary). -/
abbrev Ink := BitVec 4

/-- A render row, 0..31 (rule R140). -/
abbrev Row := BitVec 5

end Sys2Proof
end

