-- ==== Sys2Proof/Config.lean ====
section
/-! DEFINITION. What the specification fixes (rule R7), the parameters it leaves to the implementation (rule R8), and
the values it leaves open, which are constants with no body. -/

namespace Sys2Proof

/-! ### Fixed values (rule R7) -/

/-- CRTC_LAST_WRITABLE: the highest register index a data access reaches. -/
def Config.lastWritable : BitVec 5 := 22

/-- READ_SENTINEL: what an unselected index, an unassigned port and a write-only port read as. -/
def Config.readSentinel : Byte := 0xFF

/-- VRAM_SIZE in bytes. -/
def Config.vramSize : Nat := 65536

/-- DISPLINE_MOD: the number of output lines. -/
def Config.displayLines : Nat := 500

/-- VSYNC_LINES: the count the vertical-sync countdown is armed to. -/
def Config.vsyncLines : Byte := 16

/-- GFX_CELL_PIXELS: the frame width of one graphics cell. -/
def Config.graphicsCellPixels : Int := 16

/-- TEXT_FRAME_CELL: the frame width of one text cell. -/
def Config.textFrameCell : Int := 9

/-- The number of ports in the I/O block (rule R62). -/
def Config.portCount : Nat := 16

/-! ### Parameters (rule R8) -/

/-- The parameters of rule R8 that the model takes as an argument: every machine state carries one such record, no
step changes it, and a statement about every state holds for every choice. -/
structure Params where
  /-- P_PORT_BASE: the I/O address of port offset 0. -/
  portBase : Nat
  /-- P_OFF_MODE: the port offset of the mode-control register. -/
  offMode : BitVec 4
  /-- P_OFF_STATUS: the port offset of the status register. -/
  offStatus : BitVec 4
  /-- P_OFF_CONFIG: the port offset of the extended-configuration register. -/
  offConfig : BitVec 4
  /-- P_VRAM_BASE: the physical base of the claimed window. -/
  vramBase : Nat
  /-- P_STATUS_ID: the pattern OR-ed into status reads. -/
  statusId : Byte
  /-- P_UL_ROW: the glyph row the MDA attribute rules underline. -/
  underlineRow : Nat
  /-- P_DOUBLE_MASK: the mask of the doubled render row. -/
  doubleMask : Row
  /-- P_ELG_LO: the first character with 9th-pixel duplication. -/
  elgLo : Byte
  /-- P_ELG_HI: the last character with 9th-pixel duplication. -/
  elgHi : Byte
  /-- P_RAMFONT_BASE: the VRAM offset of RAM font 0. -/
  ramFontBase : Offset
  /-- P_FIRST_RESET: what firstVisibleLine becomes at a frame end. -/
  firstReset : Int
  /-- P_MIN_W: a narrower frame width is replaced. -/
  minWidth : Int
  /-- P_DEF_W: the replacement width. -/
  defWidth : Int
  /-- P_MIN_H: a lower frame height is replaced. -/
  minHeight : Int
  /-- P_DEF_H: the replacement height. -/
  defHeight : Int
  /-- P_GFX_INK_ON: the ink of a set graphics pixel. -/
  inkOn : Ink
  /-- P_GFX_INK_OFF: the ink of a clear graphics pixel. -/
  inkOff : Ink
  /-- P_HOST_INIT_W: the host's screen width before the first resize. -/
  hostInitWidth : Int
  /-- P_HOST_INIT_H: the host's screen height before the first resize. -/
  hostInitHeight : Int
  /-- P_DEFAULT_PALETTE: what INIT loads into the palette. -/
  defaultPalette : Vector (BitVec 6) 16
  deriving DecidableEq, Repr

/-- The defaults of rule R8. Most are general knowledge of the adapter family (PRESUMED, unsafe:
notes/assumptions/1.md, and notes/assumptions/2.md for the three port offsets); the palette's contents are in no
source and are zero here (DESIGN CHOICE, unsafe: notes/assumptions/5.md). -/
def Params.default : Params where
  portBase := 0x3B0
  offMode := 0x8
  offStatus := 0xA
  offConfig := 0xF
  vramBase := 0xB0000
  statusId := 0x10
  underlineRow := 13
  doubleMask := 0x07
  elgLo := 0xC0
  elgHi := 0xDF
  ramFontBase := 0x4000
  firstReset := 1000
  minWidth := 64
  defWidth := 656
  minHeight := 32
  defHeight := 200
  inkOn := 7
  inkOff := 0
  hostInitWidth := 0
  hostInitHeight := 0
  defaultPalette := Vector.replicate 16 0

/-- The named offsets under which rule R116 chooses exactly one rule for each port word: none is an index or data port
(rules R87 and R88), and the two registers written lie apart. The status register, which is only read, may share its
offset with a register that is only written. DEDUCED, safe: notes/assumptions/2.md. -/
abbrev Params.PortsLegal (p : Params) : Prop :=
  8 ≤ p.offMode.toNat ∧ 8 ≤ p.offStatus.toNat ∧ 8 ≤ p.offConfig.toNat ∧ p.offMode ≠ p.offConfig

/-- What the specification requires of the parameters: P_VRAM_BASE is a multiple of 64K (decision D3), P_FIRST_RESET
is no output line, so that every later frame's first visible line waits for the buffer (rule R141, N-TIM-3), and the
port offsets are legal. -/
abbrev Params.Legal (p : Params) : Prop := p.vramBase % 0x10000 = 0 ∧ 500 ≤ p.firstReset ∧ p.PortsLegal

/-! ### Open values: constants with no body -/

/-- P_FONT_ROM: the glyph byte of a character and a row (rules R34 and R172). Its contents are in no source. Safe:
notes/assumptions/3.md. -/
opaque Config.fontRom : Byte → Row → Byte

/-- P_RGB_TABLE: the red, green and blue of each of the 64 colours (rule R34). Its contents are in no source, and no
step reads it. Safe: notes/assumptions/4.md. -/
opaque Config.rgbTable : BitVec 6 → Nat × Nat × Nat

/-- The draw of rule R162: the blank period when the columns displayed exceed the horizontal total, one fresh value for
each value of the state's draw counter. Safe: notes/assumptions/6.md. -/
opaque Config.freeBlankPeriod : Nat → Nat

end Sys2Proof
end

