-- ==== Sys2Proof/Syntax.lean ====
section
/-! DEFINITION. The transactions the display timing controller accepts (rules R3 and R82): one constructor for each
row of spec/opcode_table.json. A field the decoder ignores (rule R85) is no operand. The table names the unassigned
rows by their offsets at the defaults of P_OFF_MODE, P_OFF_STATUS and P_OFF_CONFIG; which offset a row has under other
parameters is said in Decode.lean (notes/assumptions/2.md). -/

namespace Sys2Proof

/-- One transaction. `off` is the port offset A[3:0] where a row covers several (rule R83), `v` the byte written,
`a` the 16-bit VRAM offset (rule R84). -/
inductive Instr where
  /-- IOW_INDEX, rule R117. -/
  | iowIndex (off : BitVec 4) (v : Byte)
  /-- IOW_DATA, rule R118. -/
  | iowData (off : BitVec 4) (v : Byte)
  /-- IOW_MODE, at the offset P_OFF_MODE, rule R120. -/
  | iowMode (v : Byte)
  /-- IOW_UNASSIGNED_9, rule R122. -/
  | iowUnassigned9 (v : Byte)
  /-- IOW_UNASSIGNED_A, by default the read-only status port, rule R122. -/
  | iowUnassignedA (v : Byte)
  /-- IOW_UNASSIGNED_B, rule R122. -/
  | iowUnassignedB (v : Byte)
  /-- IOW_UNASSIGNED_C, rule R122. -/
  | iowUnassignedC (v : Byte)
  /-- IOW_UNASSIGNED_D, rule R122. -/
  | iowUnassignedD (v : Byte)
  /-- IOW_UNASSIGNED_E, rule R122. -/
  | iowUnassignedE (v : Byte)
  /-- IOW_CONFIG, at the offset P_OFF_CONFIG, rule R121. -/
  | iowConfig (v : Byte)
  /-- IOR_INDEX, rule R123. -/
  | iorIndex (off : BitVec 4)
  /-- IOR_DATA, rule R124. -/
  | iorData (off : BitVec 4)
  /-- IOR_STATUS, at the offset P_OFF_STATUS, rule R125. -/
  | iorStatus
  /-- IOR_UNASSIGNED_8, by default the write-only mode port, rule R126. -/
  | iorUnassigned8
  /-- IOR_UNASSIGNED_9, rule R126. -/
  | iorUnassigned9
  /-- IOR_UNASSIGNED_B, rule R126. -/
  | iorUnassignedB
  /-- IOR_UNASSIGNED_C, rule R126. -/
  | iorUnassignedC
  /-- IOR_UNASSIGNED_D, rule R126. -/
  | iorUnassignedD
  /-- IOR_UNASSIGNED_E, rule R126. -/
  | iorUnassignedE
  /-- IOR_UNASSIGNED_F, by default the write-only configuration port, rule R126. -/
  | iorUnassignedF
  /-- MEMW, rule R213. -/
  | memw (a : Offset) (v : Byte)
  /-- MEMR, rule R215. -/
  | memr (a : Offset)
  /-- TICK, rule R136. -/
  | tick
  /-- INIT, rule R236. -/
  | init
  /-- CLOSE, rule R239. -/
  | close
  /-- SPEED, rule R241. -/
  | speed
  deriving DecidableEq, Repr

end Sys2Proof
end

