-- ==== Sys2Proof/WellFormed.lean ====
section
/-! DEFINITION. Which terms of `Instr` spell a transaction word (rules R87 and R88). -/

namespace Sys2Proof

/-- Offsets with offset[3] = 0 and offset[0] = 0 are the index ports (rule R88). -/
def isIndexPort (off : BitVec 4) : Bool := !off.getLsbD 3 && !off.getLsbD 0

/-- Offsets with offset[3] = 0 and offset[0] = 1 are the data ports (rule R88). -/
def isDataPort (off : BitVec 4) : Bool := !off.getLsbD 3 && off.getLsbD 0

/-- A term is well formed when its port offset is one its row lists. Every other operand is legal at every value. -/
def Instr.wf : Instr → Bool
  | .iowIndex off _ => isIndexPort off
  | .iowData off _ => isDataPort off
  | .iorIndex off => isIndexPort off
  | .iorData off => isDataPort off
  | .iowMode _ | .iowUnassigned9 _ | .iowUnassignedA _ | .iowUnassignedB _ | .iowUnassignedC _
  | .iowUnassignedD _ | .iowUnassignedE _ | .iowConfig _ | .iorStatus | .iorUnassigned8
  | .iorUnassigned9 | .iorUnassignedB | .iorUnassignedC | .iorUnassignedD | .iorUnassignedE
  | .iorUnassignedF | .memw _ _ | .memr _ | .tick | .init | .close | .speed => true

end Sys2Proof
end

