-- ==== Sys2Proof/Decode.lean ====
section
/-! DEFINITION. The decoder of the 32-bit transaction word and the encoder (rules R81 to R88, R109). -/

namespace Sys2Proof

/-- Why a word spells no transaction (rule R86), named by the field at fault. -/
inductive DecodeError where
  /-- K, bits 31:28, is 8 or more. -/
  | reservedKind
  /-- Z, bits 27:24, is not 0. -/
  | reservedBits
  /-- A port word with A[15:4], bits 23:12, not 0. -/
  | portAddressHigh
  deriving DecidableEq, Repr

/-! ### The fields of the word (rule R81) -/

/-- K, bits 31:28. -/
def kindField (w : Word32) : BitVec 4 := w.extractLsb' 28 4

/-- Z, bits 27:24. -/
def reservedField (w : Word32) : BitVec 4 := w.extractLsb' 24 4

/-- A, bits 23:8. -/
def addressField (w : Word32) : Offset := w.extractLsb' 8 16

/-- A[15:4] of a port word, bits 23:12. -/
def portHighField (w : Word32) : BitVec 12 := w.extractLsb' 12 12

/-- The port offset A[3:0], bits 11:8 (rule R83). -/
def offsetField (w : Word32) : BitVec 4 := w.extractLsb' 8 4

/-- D, bits 7:0. -/
def dataField (w : Word32) : Byte := w.extractLsb' 0 8

/-! ### The port map (rules R87 and R116), with P_OFF_MODE, P_OFF_STATUS and P_OFF_CONFIG as parameters

The opcode table spells the map at the defaults of the three offsets: a row for each unassigned write offset (9 to
0xE) and for each unassigned read offset (8, 9, 0xB to 0xF). Where the parameters move a named register, an offset it
left has no row of its own and takes the row of an offset that a named register took, so that each unassigned offset
keeps one row. All those rows of a kind do the same (rules R122 and R126). DESIGN CHOICE as to the row's name only,
safe: notes/assumptions/2.md. -/

/-- The row of an unassigned write offset: its own, and for 8 and 0xF, where mode or configuration has left them, that
of the offset the register moved to, or, where that offset is 0xF or 8 and so has no row, of the other register's. -/
def Params.writeRow (p : Params) (off : BitVec 4) : BitVec 4 :=
  if off = 0x8 then (if p.offMode = 0xF then p.offConfig else p.offMode)
  else if off = 0xF then (if p.offConfig = 0x8 then p.offMode else p.offConfig)
  else off

/-- The offset of an unassigned write row: `writeRow` read backwards. -/
def Params.writeOffset (p : Params) (row : BitVec 4) : BitVec 4 :=
  if row = p.offMode then (if p.offConfig = 0x8 then 0xF else 0x8)
  else if row = p.offConfig then (if p.offMode = 0xF then 0x8 else 0xF)
  else row

/-- The row of an unassigned read offset: its own, and for 0xA, where status has left it, that of the offset status
moved to. -/
def Params.readRow (p : Params) (off : BitVec 4) : BitVec 4 := if off = 0xA then p.offStatus else off

/-- The offset of an unassigned read row: `readRow` read backwards. -/
def Params.readOffset (p : Params) (row : BitVec 4) : BitVec 4 := if row = p.offStatus then 0xA else row

/-- The ignored write of a row (rule R122). -/
def unassignedWrite (row : BitVec 4) (v : Byte) : Instr :=
  if row = 0x9 then .iowUnassigned9 v
  else if row = 0xA then .iowUnassignedA v
  else if row = 0xB then .iowUnassignedB v
  else if row = 0xC then .iowUnassignedC v
  else if row = 0xD then .iowUnassignedD v
  else .iowUnassignedE v

/-- The read of a row that returns 0xFF (rule R126). -/
def unassignedRead (row : BitVec 4) : Instr :=
  if row = 0x8 then .iorUnassigned8
  else if row = 0x9 then .iorUnassigned9
  else if row = 0xB then .iorUnassignedB
  else if row = 0xC then .iorUnassignedC
  else if row = 0xD then .iorUnassignedD
  else if row = 0xE then .iorUnassignedE
  else .iorUnassignedF

/-- The port write at an offset (rules R87 and R116). -/
def decodeIow (p : Params) (off : BitVec 4) (v : Byte) : Instr :=
  if isIndexPort off then .iowIndex off v
  else if isDataPort off then .iowData off v
  else if off = p.offMode then .iowMode v
  else if off = p.offConfig then .iowConfig v
  else unassignedWrite (p.writeRow off) v

/-- The port read at an offset (rules R87 and R116). -/
def decodeIor (p : Params) (off : BitVec 4) : Instr :=
  if isIndexPort off then .iorIndex off
  else if isDataPort off then .iorData off
  else if off = p.offStatus then .iorStatus
  else unassignedRead (p.readRow off)

/-- The decoder: total on every 32-bit word, refusing by name the words of rule R86. Fields that rule R85 calls
don't-care are not looked at. The parameters say where the three named ports lie. -/
def decode (p : Params) (w : Word32) : Except DecodeError Instr :=
  if 8 ≤ (kindField w).toNat then .error .reservedKind
  else if reservedField w ≠ 0 then .error .reservedBits
  else if kindField w = 0 then
    if portHighField w ≠ 0 then .error .portAddressHigh else .ok (decodeIow p (offsetField w) (dataField w))
  else if kindField w = 1 then
    if portHighField w ≠ 0 then .error .portAddressHigh else .ok (decodeIor p (offsetField w))
  else if kindField w = 2 then .ok (.memw (addressField w) (dataField w))
  else if kindField w = 3 then .ok (.memr (addressField w))
  else if kindField w = 4 then .ok .tick
  else if kindField w = 5 then .ok .init
  else if kindField w = 6 then .ok .close
  else .ok .speed

/-! ### The encoder -/

/-- A word from its fields K, A and D, with Z = 0 (rule R81). -/
def transactionWord (k : BitVec 4) (a : Offset) (d : Byte) : Word32 := k ++ (0 : BitVec 4) ++ a ++ d

/-- The word of a port write. -/
def encodeIow (off : BitVec 4) (v : Byte) : Word32 := transactionWord 0 (off.setWidth 16) v

/-- The word of a port read; D, which the decoder ignores, is 0. -/
def encodeIor (off : BitVec 4) : Word32 := transactionWord 1 (off.setWidth 16) 0

/-- The word of a transaction, with 0 in the fields rule R85 calls don't-care. -/
def encode (p : Params) : Instr → Word32
  | .iowIndex off v => encodeIow off v
  | .iowData off v => encodeIow off v
  | .iowMode v => encodeIow p.offMode v
  | .iowUnassigned9 v => encodeIow (p.writeOffset 0x9) v
  | .iowUnassignedA v => encodeIow (p.writeOffset 0xA) v
  | .iowUnassignedB v => encodeIow (p.writeOffset 0xB) v
  | .iowUnassignedC v => encodeIow (p.writeOffset 0xC) v
  | .iowUnassignedD v => encodeIow (p.writeOffset 0xD) v
  | .iowUnassignedE v => encodeIow (p.writeOffset 0xE) v
  | .iowConfig v => encodeIow p.offConfig v
  | .iorIndex off => encodeIor off
  | .iorData off => encodeIor off
  | .iorStatus => encodeIor p.offStatus
  | .iorUnassigned8 => encodeIor (p.readOffset 0x8)
  | .iorUnassigned9 => encodeIor (p.readOffset 0x9)
  | .iorUnassignedB => encodeIor (p.readOffset 0xB)
  | .iorUnassignedC => encodeIor (p.readOffset 0xC)
  | .iorUnassignedD => encodeIor (p.readOffset 0xD)
  | .iorUnassignedE => encodeIor (p.readOffset 0xE)
  | .iorUnassignedF => encodeIor (p.readOffset 0xF)
  | .memw a v => transactionWord 2 a v
  | .memr a => transactionWord 3 a 0
  | .tick => transactionWord 4 0 0
  | .init => transactionWord 5 0 0
  | .close => transactionWord 6 0 0
  | .speed => transactionWord 7 0 0

/-- The 32-bit word whose low `nbits` bits are those of `w` and whose other bits are 0. -/
def tableWord (nbits w : Nat) : Word32 := BitVec.ofNat 32 (w % 2 ^ nbits)

/-- What the decoder reads from the bits the opcode table numbers. A transaction is one 32-bit word (rule R109), so
there is no byte order to apply. The table is spelled at the default port offsets. -/
def decodeTableWord (nbits w : Nat) : Option Instr :=
  match decode Params.default (tableWord nbits w) with
  | .ok i => some i
  | .error _ => none

end Sys2Proof
end

