-- ==== Sys2Proof/Machine/State.lean ====
section
/-! DEFINITION. The state of the display timing controller (spec/10_state.md), the reasons a step can stop, and the
state after reset (rule R55). -/

namespace Sys2Proof.Machine

/-- A sparse VRAM: the bytes that are not 0, by offset, addresses strictly rising (`Memory.wf` in Machine/Ops.lean).
An unlisted offset reads as 0, the contents INIT gives it (rule R49). -/
abbrev Memory := List Host.Cell

/-- The device's lifecycle (rule R53). -/
inductive Lifecycle where
  /-- There is no device yet: only INIT runs (rules R53 and R240). The specification gives this no name, since
  before INIT no device state exists. -/
  | uncreated
  /-- INIT has run and CLOSE has not. -/
  | live
  /-- CLOSE has run. -/
  | closed
  deriving DecidableEq, Repr

/-- The two sizes of the claimed window (rule R50). -/
inductive Window where
  /-- 32768 bytes. -/
  | w32K
  /-- 65536 bytes. -/
  | w64K
  deriving DecidableEq, Repr

/-- The window's size in bytes (WINDOW_SIZES, rule R7). -/
def Window.bytes : Window → Nat
  | .w32K => 32768
  | .w64K => 65536

/-- The device's outputs to its collaborators (rule R52). -/
inductive Event where
  /-- To the scheduler: make the next advance() call after this many ticks (rule R137). -/
  | schedule (ticks : Nat)
  /-- To the frame buffer: block until a buffer is free (rules R141 and R252). -/
  | waitForBuffer
  /-- To the frame buffer: one rendered line, leftmost pixel first (rule R142). -/
  | line (number : Nat) (pixels : List Ink)
  /-- To the frame buffer: a new output size (rule R156). -/
  | resize (width height : Int)
  /-- To the frame buffer: present the accumulated lines (rule R157). -/
  | blit (firstLine lineCount width height : Int)
  /-- To the bus: route this physical range here (rule R121). -/
  | mapWindow (base size : Nat)
  /-- To the port dispatch: route these ports here (rule R238). -/
  | claimPorts (base count : Nat)
  /-- To the scheduler: start calling advance() (rule R238). -/
  | registerTick
  deriving DecidableEq, Repr

/-- One transaction as a collaborator sends it: its word, and the host values rule R81 says it carries outside the
word. A kind that carries none ignores them. -/
structure Request where
  /-- The transaction word. -/
  word : Word32
  /-- P_TICK_SCALE, carried by INIT and SPEED. -/
  tickScale : Nat := 1
  /-- The verdict of P_WRITE_BYPASS, carried by MEMW (rule R214; its default is false). -/
  writeBypass : Bool := false
  deriving DecidableEq, Repr

/-- The machine's state: every field of spec/10_state.md, and after them the model's own fields. -/
@[ext]
structure State where
  /-- The CRTC register file (rule R26). -/
  crtc : Vector Byte 32
  /-- The selected register (rule R28). -/
  crtcIndex : BitVec 5
  /-- The mode-control register (rule R29). -/
  mode : Byte
  /-- The extended-configuration register (rule R30). -/
  modeExt : Byte
  /-- The internal status byte (rule R31). -/
  status : Byte
  /-- The palette (rule R32). -/
  palette : Vector (BitVec 6) 16
  /-- The palette-extension index cursor (rule R33). -/
  palExtCursor : BitVec 4
  /-- The palette-extension enable flag (rule R33). -/
  palExtEnable : Bool
  /-- vc, the character-row counter (rule R35). -/
  verticalCounter : BitVec 7
  /-- sc, the scanline counter within a row or the adjust (rule R36). -/
  scanlineCounter : BitVec 5
  /-- The output line the next blank half renders into (rule R37). -/
  displayLine : Nat
  /-- False before a blank half, true before an active half (rule R38). -/
  lineInFramePosition : Bool
  /-- vadj, the vertical-adjust scanlines still to run (rule R39). -/
  verticalAdjustRemaining : Byte
  /-- The vertical-sync scanlines still to run (rules R40 and R229). -/
  verticalSyncRemaining : Byte
  /-- The frame's first visible line (rule R41). -/
  firstVisibleLine : Int
  /-- The frame's last visible line (rule R41). -/
  lastVisibleLine : Int
  /-- dispon: whether the row lies in the display region (rule R42). -/
  displayActive : Bool
  /-- ma, the cell address cursor (rule R43). -/
  memoryAddress : CellAddr
  /-- maback, the row's start address (rule R43). -/
  memoryAddressBackup : CellAddr
  /-- con, the cursor-row window (rule R44). -/
  cursorEnabledWindow : Bool
  /-- coff, set with every clearing of con (rule R45). -/
  cursorDisabledWindow : Bool
  /-- cursoron, the per-frame cursor gate (rule R46). -/
  cursorVisible : Bool
  /-- The frame counter behind blinking (rule R47). -/
  blinkCounter : BitVec 32
  /-- The delay an active half schedules (rule R48). -/
  visiblePeriodTicks : Nat
  /-- The delay a blank half schedules (rule R48). -/
  blankPeriodTicks : Nat
  /-- The host's current P_TICK_SCALE (rule R48). -/
  tickScale : Nat
  /-- The device time at which the next advance() is due (rule R48). -/
  accumulatedDeviceTime : Nat
  /-- The 65536 bytes of display memory (rule R49). -/
  vram : Memory
  /-- The claimed window (rule R50). -/
  claimedWindow : Window
  /-- The host context's output width (rule R51). -/
  screenW : Int
  /-- The host context's output height (rule R51). -/
  screenH : Int
  /-- The host context's frame counter (rule R51). -/
  frameCounter : BitVec 32
  /-- The event sequence, oldest first (rule R52). -/
  events : List Event
  /-- The device's lifecycle (rule R53). -/
  lifecycle : Lifecycle
  /-- THE MODEL'S OWN: the parameters of rule R8, which no step changes. -/
  params : Params
  /-- THE MODEL'S OWN: the transactions the collaborators have sent and the device has not run, oldest first. -/
  pending : List Request
  /-- THE MODEL'S OWN: the P_TICK_SCALE that came with the transaction in hand (rule R81). -/
  hostTickScale : Nat
  /-- THE MODEL'S OWN: the P_WRITE_BYPASS verdict that came with the transaction in hand (rule R81). -/
  hostWriteBypass : Bool
  /-- THE MODEL'S OWN: the byte the last transaction returned, if it returned one (rule R81). -/
  reply : Option Byte
  /-- THE MODEL'S OWN: how many draws of rule R162 have been made. -/
  drawCount : Nat
  deriving DecidableEq, Repr

/-- The device raises no exception and reports no error (rules R221 and R128): there is no fault, and nothing raises
one. Safe: no transaction of the specification stops the device. -/
inductive Fault where
  deriving DecidableEq, Repr

/-- Why the model has no step for a transaction (rules R86, R222 and R240). The device cannot receive such a transaction
from a host that keeps its duties. -/
inductive Refusal where
  /-- Raised by exec's arm for an instruction with no meaning yet; none is left. Safe: nothing is claimed of it. -/
  | notModelled (mnemonic : String)
  /-- Raised by step for a word that spells no transaction (rule R86). Safe: the specification has a model refuse it. -/
  | illegalWord (why : DecodeError)
  /-- Raised by every transaction but INIT before INIT (rule R240). Safe: the specification has a model refuse it. -/
  | beforeInit
  /-- Raised by INIT when the device exists (rule R240). Safe: the specification has a model refuse it. -/
  | secondInit
  /-- Raised by every transaction after CLOSE (rule R240). Safe: the specification has a model refuse it. -/
  | afterClose
  /-- Raised by INIT and SPEED when the host's P_TICK_SCALE is 0, which rules R236 and R241 exclude ("positive
  integer"); rule R234 refuses a host that breaks its duty. Safe: nothing is claimed of such a host. -/
  | tickScaleNotPositive
  deriving DecidableEq, Repr

/-- The state right after INIT with P_TICK_SCALE = 1 and the default parameters (rule R55). The values 0 and false are
the specification's decision D9; P_TICK_SCALE = 1 is a DESIGN CHOICE (unsafe: notes/assumptions/7.md), the value of the
specification's test vectors. No transaction is pending. -/
def State.reset : State where
  crtc := Vector.replicate 32 0
  crtcIndex := 0
  mode := 0
  modeExt := 0
  status := 0
  palette := Params.default.defaultPalette
  palExtCursor := 0
  palExtEnable := false
  verticalCounter := 0
  scanlineCounter := 0
  displayLine := 0
  lineInFramePosition := false
  verticalAdjustRemaining := 0
  verticalSyncRemaining := 0
  firstVisibleLine := 0
  lastVisibleLine := 0
  displayActive := false
  memoryAddress := 0
  memoryAddressBackup := 0
  cursorEnabledWindow := false
  cursorDisabledWindow := false
  cursorVisible := false
  blinkCounter := 0
  visiblePeriodTicks := 0
  blankPeriodTicks := 1
  tickScale := 1
  accumulatedDeviceTime := 0
  vram := []
  claimedWindow := .w32K
  screenW := Params.default.hostInitWidth
  screenH := Params.default.hostInitHeight
  frameCounter := 0
  events := [.claimPorts Params.default.portBase 16, .mapWindow Params.default.vramBase 32768, .registerTick]
  lifecycle := .live
  params := Params.default
  pending := []
  hostTickScale := 1
  hostWriteBypass := false
  reply := none
  drawCount := 0

/-- The machine before any INIT. No device state exists (rule R53): every transaction but INIT is refused, and INIT
writes every device field, so nothing reads the values that stand here. -/
def State.powerOn : State := { State.reset with lifecycle := .uncreated, events := [] }

end Sys2Proof.Machine
end

