-- ==== Sys2Proof/Machine/Ops.lean ====
section
/-! DEFINITION. The named operations over VRAM, the register file, the event sequence and the lifecycle that every
transaction shares. The device raises no exception (rules R221 and R226), so there is no exception entry and no return
from one to share. -/

namespace Sys2Proof.Machine

/-! ### VRAM as a list in canonical form (rule R49) -/

/-- The byte at an offset; an unlisted offset reads as 0. -/
def Memory.read : Memory → Nat → Byte
  | [], _ => 0#8
  | (k, b) :: m, a => if k = a then b else Memory.read m a

/-- Store a byte, keeping the canonical form: storing 0 removes the entry. -/
def Memory.write : Memory → Nat → Byte → Memory
  | [], a, v => if v = 0#8 then [] else [(a, v)]
  | (k, b) :: m, a, v =>
    if k < a then (k, b) :: Memory.write m a v
    else if k = a then (if v = 0#8 then m else (a, v) :: m)
    else (if v = 0#8 then (k, b) :: m else (a, v) :: (k, b) :: m)

/-- The canonical form from a lowest offset on: offsets strictly rising, inside VRAM, no byte 0. -/
def Memory.wfFrom : Nat → Memory → Bool
  | _, [] => true
  | lo, (k, b) :: m => decide (lo ≤ k) && decide (k < Config.vramSize) && decide (b ≠ 0#8) && Memory.wfFrom (k + 1) m

/-- The canonical form. -/
def Memory.wf (m : Memory) : Bool := Memory.wfFrom 0 m

/-- MemRead(a, 1) of rule R12, for a 16-bit offset: the mask `& 0xFFFF` is the width of `a`. -/
def State.memRead (s : State) (a : Offset) : Byte := Memory.read s.vram a.toNat

/-- MemWrite(a, 1, v) of rule R12. -/
def State.memWrite (s : State) (a : Offset) (v : Byte) : State := { s with vram := Memory.write s.vram a.toNat v }

/-! ### The register file (rules R12 and R26) -/

/-- `crtc[i]`. -/
def State.reg (s : State) (i : BitVec 5) : Byte := s.crtc[i.toNat]'i.isLt

/-- `crtc[i] <- v`. -/
def State.setReg (s : State) (i : BitVec 5) (v : Byte) : State := { s with crtc := s.crtc.set i.toNat v i.isLt }

/-- `crtc[i]` of a register narrower than a counter comparison needs, as a number. -/
def State.regNat (s : State) (i : BitVec 5) : Nat := (s.reg i).toNat

/-! ### One update for each group of fields

Every other definition of the model changes the state only through these, so Laws/State.lean says once what each of them
does to each field. -/

/-- `crtcIndex <- i`. -/
def State.withIndex (s : State) (i : BitVec 5) : State := { s with crtcIndex := i }

/-- `mode <- v`. -/
def State.withMode (s : State) (v : Byte) : State := { s with mode := v }

/-- `modeExt <- v`. -/
def State.withModeExt (s : State) (v : Byte) : State := { s with modeExt := v }

/-- The window claimed. -/
def State.withWindow (s : State) (w : Window) : State := { s with claimedWindow := w }

/-- `status <- v`. -/
def State.withStatus (s : State) (v : Byte) : State := { s with status := v }

/-- `verticalCounter <- v`. -/
def State.withRow (s : State) (v : BitVec 7) : State := { s with verticalCounter := v }

/-- `scanlineCounter <- v`. -/
def State.withScanline (s : State) (v : BitVec 5) : State := { s with scanlineCounter := v }

/-- `displayLine <- n`. -/
def State.withDisplayLine (s : State) (n : Nat) : State := { s with displayLine := n }

/-- `lineInFramePosition <- b`. -/
def State.withHalf (s : State) (b : Bool) : State := { s with lineInFramePosition := b }

/-- `verticalAdjustRemaining <- n`. -/
def State.withAdjust (s : State) (n : Byte) : State := { s with verticalAdjustRemaining := n }

/-- `verticalSyncRemaining <- n`. -/
def State.withVsync (s : State) (n : Byte) : State := { s with verticalSyncRemaining := n }

/-- `firstVisibleLine <- n`. -/
def State.withFirstLine (s : State) (n : Int) : State := { s with firstVisibleLine := n }

/-- `lastVisibleLine <- n`. -/
def State.withLastLine (s : State) (n : Int) : State := { s with lastVisibleLine := n }

/-- `displayActive <- b`. -/
def State.withDisplay (s : State) (b : Bool) : State := { s with displayActive := b }

/-- `memoryAddress <- a`. -/
def State.withAddress (s : State) (a : CellAddr) : State := { s with memoryAddress := a }

/-- `memoryAddressBackup <- a`. -/
def State.withRowStart (s : State) (a : CellAddr) : State := { s with memoryAddressBackup := a }

/-- `con <- on; coff <- off`. -/
def State.withCursorWindow (s : State) (on off : Bool) : State :=
  { s with cursorEnabledWindow := on, cursorDisabledWindow := off }

/-- `cursoron <- b`. -/
def State.withCursorVisible (s : State) (b : Bool) : State := { s with cursorVisible := b }

/-- `blinkCounter <- n`. -/
def State.withBlink (s : State) (n : BitVec 32) : State := { s with blinkCounter := n }

/-- `frameCounter <- n`. -/
def State.withFrame (s : State) (n : BitVec 32) : State := { s with frameCounter := n }

/-- The output size. -/
def State.withScreen (s : State) (w h : Int) : State := { s with screenW := w, screenH := h }

/-- Both periods. -/
def State.withPeriods (s : State) (visible blank : Nat) : State :=
  { s with visiblePeriodTicks := visible, blankPeriodTicks := blank }

/-- `tickScale <- n`. -/
def State.withScale (s : State) (n : Nat) : State := { s with tickScale := n }

/-- `accumulatedDeviceTime <- n`. -/
def State.withDeviceTime (s : State) (n : Nat) : State := { s with accumulatedDeviceTime := n }

/-- `lifecycle <- l`. -/
def State.withLifecycle (s : State) (l : Lifecycle) : State := { s with lifecycle := l }

/-- One more draw of rule R162. -/
def State.countDraw (s : State) : State := { s with drawCount := s.drawCount + 1 }

/-! ### Events and replies (rules R12 and R81) -/

/-- `emit e`: append to the event sequence. -/
def State.emit (s : State) (e : Event) : State := { s with events := s.events ++ [e] }

/-- Return a byte to the CPU. -/
def State.answer (s : State) (b : Byte) : State := { s with reply := some b }

/-- The output line space of rule R61, as the host sees it: the pixels last written to a line, none before the first.
The `Line` events are its only writer, so it is a view of the event sequence. -/
def State.outputLine (s : State) (n : Nat) : Option (List Ink) :=
  s.events.reverse.findSome? fun e =>
    match e with
    | .line k px => if k = n then some px else none
    | _ => none

/-- The colour the frame-buffer collaborator gives an ink, `P_RGB_TABLE[palette[ink]]` (rule R32). No transaction
performs it. -/
def State.inkColour (s : State) (ink : Ink) : Nat × Nat × Nat := Config.rgbTable (s.palette[ink.toNat]'ink.isLt)

/-! ### Lifecycle (rule R240) -/

/-- The outcome `t` for a transaction that needs a live device, and the refusals of rule R240 otherwise. -/
def State.whenLive (s : State) (t : State) : Host.Outcome State Fault Refusal :=
  match s.lifecycle with
  | .uncreated => .refused .beforeInit
  | .live => .next t
  | .closed => .refused .afterClose

end Sys2Proof.Machine
end

