-- ==== Sys2Proof/Machine/Operands.lean ====
section
/-! DEFINITION. The named accessors over the register bytes (rules R94 to R106): each is the one place that knows its
bit positions. The positions are decisions D4, D5, D7, D21, D24 and D25 of the specification. -/

namespace Sys2Proof.Machine

/-- Rule R94: mode.GRAPH and modeExt.GRAPH_ALLOW. -/
def State.graphicsMode (s : State) : Bool := s.mode.getLsbD 1 && s.modeExt.getLsbD 0

/-- Rule R95: mode.VIDEO_EN. -/
def State.videoEnabled (s : State) : Bool := s.mode.getLsbD 3

/-- Rule R96: mode.BLINK_EN. -/
def State.blinkEnabled (s : State) : Bool := s.mode.getLsbD 5

/-- Rule R97: mode.PAGE1 and modeExt.PAGE1_ALLOW. -/
def State.page1Active (s : State) : Bool := s.mode.getLsbD 7 && s.modeExt.getLsbD 1

/-- Rule R98: modeExt.PAGE1_ALLOW claims the 64K window. -/
def State.window64K (s : State) : Bool := s.modeExt.getLsbD 1

/-- Rule R121: the window a configuration byte claims. -/
def State.configuredWindow (s : State) : Window := if s.window64K then .w64K else .w32K

/-- Rule R99: the 2-bit field of `crtc[8]` equals 3. -/
def State.doubled (s : State) : Bool := (s.reg 8).extractLsb' 0 2 == 3

/-- Rule R100: `((crtc[12] << 8) | crtc[13]) & 0x3FFF`. -/
def State.startAddress (s : State) : CellAddr := (s.reg 12 ++ s.reg 13).extractLsb' 0 14

/-- Rule R101: `((crtc[14] << 8) | crtc[15]) & 0x3FFF`. -/
def State.cursorAddress (s : State) : CellAddr := (s.reg 14 ++ s.reg 15).extractLsb' 0 14

/-- Rule R102: `crtc[10] & 0x1F`. -/
def State.cursorStartRow (s : State) : Row := (s.reg 10).extractLsb' 0 5

/-- Rule R102: `(crtc[10] >> 5) & 0x03`. -/
def State.cursorMode (s : State) : BitVec 2 := (s.reg 10).extractLsb' 5 2

/-- Rule R103: `crtc[11] & 0x1F`. -/
def State.cursorEndRow (s : State) : Row := (s.reg 11).extractLsb' 0 5

/-- Rule R104: `crtc[20][0]`. -/
def State.ramFont (s : State) : Bool := (s.reg 20).getLsbD 0

/-- Rule R104: `crtc[20][1]`. -/
def State.col90 (s : State) : Bool := (s.reg 20).getLsbD 1

/-- Rule R104: `crtc[20][2]`. -/
def State.font48K (s : State) : Bool := (s.reg 20).getLsbD 2

/-- Rule R104: pixels per text cell. -/
def State.cellWidth (s : State) : Nat := if s.col90 then 8 else 9

/-- The three text strategies (rule R105). -/
inductive TextVariant where
  /-- The built-in font. -/
  | rom
  /-- The 4K font in VRAM. -/
  | ram4K
  /-- The 48K fonts in VRAM. -/
  | ram48K
  deriving DecidableEq, Repr

/-- Rule R105: `ramfont` chooses the RAM fonts, bit 2 which of them. -/
def State.textVariant (s : State) : TextVariant :=
  if s.ramFont then (if s.font48K then .ram48K else .ram4K) else .rom

/-- Rule R106: the low nibble of `crtc[21]`. -/
def State.ulRow (s : State) : BitVec 4 := (s.reg 21).extractLsb' 0 4

/-- Rule R106: the high nibble of `crtc[21]`. -/
def State.ulInk (s : State) : Ink := (s.reg 21).extractLsb' 4 4

/-- Rule R106: the low nibble of `crtc[22]`. -/
def State.olRow (s : State) : BitVec 4 := (s.reg 22).extractLsb' 0 4

/-- Rule R106: the high nibble of `crtc[22]`. -/
def State.olInk (s : State) : Ink := (s.reg 22).extractLsb' 4 4

/-- The columns of a line, `crtc[1]` (rules R181 and R209). -/
def State.columns (s : State) : Nat := s.regNat 1

/-- The blink phase `blinkCounter & 0x10` (BLINK_PHASE_BIT, rule R7). -/
def State.blinkPhase (s : State) : Bool := s.blinkCounter.getLsbD 4

/-- Rule R140: the render row, doubled under the mask when `doubled`. The mask has 5 bits, so the shift may drop the bit
above them. -/
def State.renderRow (s : State) : Row :=
  if s.doubled then (s.scanlineCounter <<< 1) &&& s.params.doubleMask else s.scanlineCounter

/-- The compare of rules R148 and R160: the counter is at a 5-bit row, or in doubled mode at half of it. -/
def State.atCursorRow (s : State) (row : Row) : Bool :=
  s.scanlineCounter == row || (s.doubled && s.scanlineCounter == row >>> 1)

/-- Rule R145: RowEnd(), on all 8 bits of `crtc[9]` (decision D13). -/
def State.rowEnd (s : State) : Bool :=
  decide (s.scanlineCounter.toNat = s.regNat 9) || (s.doubled && decide (s.scanlineCounter.toNat = s.regNat 9 / 2))

/-- A compare of the row counter with all 8 bits of a register (decision D13). -/
def State.atRow (s : State) (i : BitVec 5) : Bool := decide (s.verticalCounter.toNat = s.regNat i)

end Sys2Proof.Machine
end

