-- ==== Sys2Proof/Machine/Flags.lean ====
section
/-! DEFINITION. The two status flags (rules R31 and R54) and the byte a status read returns (rule R93). -/

namespace Sys2Proof.Machine

/-- INPROG, bit 0. -/
def inProgressBit : Byte := 0x01

/-- VSYNC, bit 3. -/
def vsyncBit : Byte := 0x08

/-- `status <- status | 0x01` (rule R139). -/
def State.setInProgress (s : State) : State := s.withStatus (s.status ||| inProgressBit)

/-- `status <- status & ~0x01` (rule R146). -/
def State.clearInProgress (s : State) : State := s.withStatus (s.status &&& ~~~inProgressBit)

/-- `status <- status | 0x08` (rule R143). -/
def State.setVsync (s : State) : State := s.withStatus (s.status ||| vsyncBit)

/-- `status <- status & ~0x08` (rule R147). -/
def State.clearVsync (s : State) : State := s.withStatus (s.status &&& ~~~vsyncBit)

/-- Rule R93: `(status & 0x0F) | ((status & 0x08) << 4) | P_STATUS_ID`. -/
def State.statusRead (s : State) : Byte :=
  (s.status &&& 0x0F) ||| ((s.status &&& 0x08) <<< 4) ||| s.params.statusId

end Sys2Proof.Machine
end

