-- ==== Sys2Proof/Machine/Line.lean ====
section
/-! DEFINITION. The loop over the cells of a line, which the text and the graphics strategies share (rules R181 and
R209). -/

namespace Sys2Proof.Machine

/-- The pixels of the next `n` cells from `ma`, leftmost first, and the address after them: each cell moves the address
on by 1, mod 2^14 (decision D14). `pixels` gives the pixels of the cell at an address. -/
def lineCells (pixels : CellAddr → List Ink) : Nat → CellAddr → List Ink × CellAddr
  | 0, ma => ([], ma)
  | n + 1, ma =>
    let rest := lineCells pixels n (ma + 1)
    (pixels ma ++ rest.1, rest.2)

end Sys2Proof.Machine
end

