-- ==== Sys2Proof/Machine/Graphics.lean ====
section
/-! DEFINITION. The graphics strategy (spec/44_render_graphics.md). -/

namespace Sys2Proof.Machine

/-- Rule R206: the 8K bank of the row and the page. -/
def State.bank (s : State) (row : Row) : Offset :=
  (row.extractLsb' 0 2).setWidth 16 * 0x2000 + (if s.page1Active then 0x8000 else 0)

/-- Rule R207: the offset of a cell's left byte, `((ma << 1) & 0x1FFF) + bank`. -/
def State.graphicsOffset (s : State) (row : Row) (ma : CellAddr) : Offset :=
  ((ma.setWidth 16 <<< 1) &&& 0x1FFF) + s.bank row

/-- Rule R207: the 16 bits of a cell, the lower offset on the left; 0 when the video is disabled. -/
def State.graphicsCell (s : State) (row : Row) (ma : CellAddr) : BitVec 16 :=
  if s.videoEnabled then
    s.memRead (s.graphicsOffset row ma) ++ s.memRead (s.graphicsOffset row ma + 1)
  else 0

/-- Rule R208: 16 pixels, most significant bit first. -/
def State.cellPixels (s : State) (b : BitVec 16) : List Ink :=
  (List.range 16).map fun i => if b.getLsbD (15 - i) then s.params.inkOn else s.params.inkOff

/-- Rule R209: RenderGraphics. -/
def State.renderGraphics (s : State) (row : Row) : List Ink × CellAddr :=
  lineCells (fun ma => s.cellPixels (s.graphicsCell row ma)) s.columns s.memoryAddress

end Sys2Proof.Machine
end

