-- ==== Sys2Proof/Machine/Font.lean ====
section
/-! DEFINITION. The font ROM/RAM arbiter: where a glyph row comes from (rules R171 to R176). Every VRAM address is a
16-bit sum, which is the mask `& 0xFFFF` of rule R176. -/

namespace Sys2Proof.Machine

/-- Rule R172: the built-in font. -/
def romGlyph (chr : Byte) (row : Row) : Byte := Config.fontRom chr row

/-- Rule R173: 16 bytes for each character from P_RAMFONT_BASE. -/
def State.ram4KAddr (s : State) (chr : Byte) (row : Row) : Offset :=
  s.params.ramFontBase + 16 * chr.setWidth 16 + row.setWidth 16

/-- Rule R174: the font number, with 12..15 folded to 4..7. -/
def fontSelect (attr : Byte) : BitVec 4 :=
  let f := attr.extractLsb' 0 4
  if 12 ≤ f.toNat then f &&& 0x7 else f

/-- Rule R175: 4096 bytes for each font. -/
def State.ram48KAddr (s : State) (f : BitVec 4) (chr : Byte) (row : Row) : Offset :=
  s.params.ramFontBase + 4096 * f.setWidth 16 + 16 * chr.setWidth 16 + row.setWidth 16

/-- Rule R173: a glyph row of the 4K font. -/
def State.ram4KGlyph (s : State) (chr : Byte) (row : Row) : Byte := s.memRead (s.ram4KAddr chr row)

/-- Rules R174 and R175: a glyph row of the 48K fonts, the font taken from the cell's attribute. -/
def State.ram48KGlyph (s : State) (chr attr : Byte) (row : Row) : Byte :=
  s.memRead (s.ram48KAddr (fontSelect attr) chr row)

/-- Rule R171: GlyphRow, the arbiter. -/
def State.glyphRow (s : State) (chr attr : Byte) (row : Row) : Byte :=
  match s.textVariant with
  | .rom => romGlyph chr row
  | .ram4K => s.ram4KGlyph chr row
  | .ram48K => s.ram48KGlyph chr attr row

end Sys2Proof.Machine
end

