-- ==== Sys2Proof/Machine/Text.lean ====
section
/-! DEFINITION. The three text strategies, their shared line loop and their attribute rules (spec/43_render_text.md). -/

namespace Sys2Proof.Machine

/-- A 9-bit row pattern, bit 8 the leftmost pixel (rule R183). -/
abbrev Pattern := BitVec 9

/-- What a cell rule returns: the cell's pixels and its foreground ink (rule R181). -/
abbrev Cell := List Ink × Ink

/-- Rule R183: the shared per-pixel emission; with 8 columns bit 0 is not emitted. -/
def State.emitPixels (s : State) (val : Pattern) (ifg ibg : Ink) : List Ink :=
  (List.range s.cellWidth).map fun i => if val.getLsbD (8 - i) then ifg else ibg

/-- One ink on all the columns of a cell (rules R195 and R197). -/
def State.solidCell (s : State) (ink : Ink) : List Ink := List.replicate s.cellWidth ink

/-- Rule R183: the glyph byte in bits 8..1. -/
def glyphPattern (glyph : Byte) : Pattern := glyph.setWidth 9 <<< 1

/-- Rule R187: whether the 9th pixel repeats the 8th. -/
def State.elg (s : State) (chr : Byte) : Bool :=
  !s.col90 && decide (s.params.elgLo.toNat ≤ chr.toNat) && decide (chr.toNat ≤ s.params.elgHi.toNat)

/-- Rule R187: `val | ((val >> 1) & 1)` when `elg`. -/
def duplicateLast (elg : Bool) (val : Pattern) : Pattern := if elg then val ||| ((val >>> 1) &&& 1) else val

/-! ### ROM and 4K attribute rules (rules R184 to R188) -/

/-- Rule R184: whether the cell is blinked off. -/
def State.mdaBlink (s : State) (attr : Byte) : Bool := s.blinkEnabled && attr.getLsbD 7 && s.blinkPhase

/-- Rule R184: the attribute with bit 7 cleared when blinking is enabled. -/
def State.mdaAttr (s : State) (attr : Byte) : Byte := if s.blinkEnabled then attr &&& 0x7F else attr

/-- Rule R185: the foreground before the blank rule. -/
def mdaForeground (attr : Byte) : Ink :=
  (if attr &&& 0x77 = 0x70 then 0 else 7) ||| (if attr.getLsbD 3 then 8 else 0)

/-- Rule R185: the background ink. -/
def mdaBackground (attr : Byte) : Ink :=
  (if attr &&& 0x77 = 0x70 then 7 else 0) ||| (if attr.getLsbD 7 then 8 else 0)

/-- Rule R185: the inks (foreground, background) of an attribute rule R184 has rewritten. -/
def mdaInks (attr : Byte) : Ink × Ink :=
  (if attr &&& 0x77 = 0 then mdaBackground attr else mdaForeground attr, mdaBackground attr)

/-- Rules R186 and R188: the row pattern, blink over underline over glyph. -/
def State.mdaPattern (s : State) (blk : Bool) (chr attr glyph : Byte) (row : Row) : Pattern :=
  if blk then 0
  else if attr &&& 0x07 = 1 ∧ row.toNat = s.params.underlineRow then 0x1FF
  else duplicateLast (s.elg chr) (glyphPattern glyph)

/-- Rules R184 to R188: a cell of the ROM and 4K strategies, from its glyph byte. -/
def State.mdaCell (s : State) (chr attr glyph : Byte) (row : Row) : Cell :=
  let blk := s.mdaBlink attr
  let attr := s.mdaAttr attr
  let inks := mdaInks attr
  (s.emitPixels (s.mdaPattern blk chr attr glyph row) inks.1 inks.2, inks.1)

/-- Rule R189: CellROM. -/
def State.cellRom (s : State) (chr attr : Byte) (row : Row) : Cell := s.mdaCell chr attr (romGlyph chr row) row

/-- Rule R190: Cell4K. The palette colour path is unreachable and is not modelled (rule R191). -/
def State.cell4K (s : State) (chr attr : Byte) (row : Row) : Cell := s.mdaCell chr attr (s.ram4KGlyph chr row) row

/-! ### 48K attribute rules (rules R193 to R196) -/

/-- Rule R193: whether the cell is blinked off. -/
def State.blink48K (s : State) (attr : Byte) : Bool := s.blinkEnabled && attr.getLsbD 7 && s.blinkPhase

/-- Rule R193: whether the cell is bold. -/
def State.bold48K (s : State) (attr : Byte) : Bool := !s.blinkEnabled && attr.getLsbD 7

/-- Rule R194: the inks (foreground, background). -/
def inks48K (attr : Byte) : Ink × Ink := if attr.getLsbD 6 then (0, 7) else (7, 0)

/-- Rule R195: whether this row is the cell's overline. -/
def State.overlineRow (s : State) (attr : Byte) (row : Row) : Bool := attr.getLsbD 5 && row == s.olRow.setWidth 5

/-- Rule R195: whether this row is the cell's underline. -/
def State.underlineRow48K (s : State) (attr : Byte) (row : Row) : Bool := attr.getLsbD 4 && row == s.ulRow.setWidth 5

/-- Rule R196: `val | (val >> 1)` when bold. -/
def boldPattern (bold : Bool) (val : Pattern) : Pattern := if bold then val ||| (val >>> 1) else val

/-- Rule R196: a cell of the 48K strategy, from its glyph byte. -/
def State.cell48KOf (s : State) (chr attr glyph : Byte) (row : Row) : Cell :=
  let inks := inks48K attr
  let pixels :=
    if s.blink48K attr then s.solidCell inks.2
    else if s.overlineRow attr row then s.solidCell (s.olInk ^^^ inks.2)
    else if s.underlineRow48K attr row then s.solidCell (s.ulInk ^^^ inks.2)
    else s.emitPixels (boldPattern (s.bold48K attr) (duplicateLast (s.elg chr) (glyphPattern glyph))) inks.1 inks.2
  (pixels, inks.1)

/-- Rule R192: Cell48K. -/
def State.cell48K (s : State) (chr attr : Byte) (row : Row) : Cell :=
  s.cell48KOf chr attr (s.ram48KGlyph chr attr row) row

/-! ### The line loop (rules R181, R182 and R197) -/

/-- The VRAM offset of a cell's character, `(ma << 1) & 0x3FFF` (rule R64). -/
def charOffset (ma : CellAddr) : Offset := (ma <<< 1).setWidth 16

/-- The VRAM offset of a cell's attribute, `((ma << 1) + 1) & 0x3FFF` (rule R64). -/
def attrOffset (ma : CellAddr) : Offset := ((ma <<< 1) + 1).setWidth 16

/-- Rules R181 and R182: the character of a cell, 0 when the video is disabled. -/
def State.cellChar (s : State) (ma : CellAddr) : Byte := if s.videoEnabled then s.memRead (charOffset ma) else 0

/-- Rules R181 and R182: the attribute of a cell, 0 when the video is disabled. -/
def State.cellAttr (s : State) (ma : CellAddr) : Byte := if s.videoEnabled then s.memRead (attrOffset ma) else 0

/-- Rule R181: whether the cursor block covers the cell at `ma`. -/
def State.drawCursor (s : State) (ma : CellAddr) : Bool :=
  decide (ma = s.cursorAddress) && s.cursorEnabledWindow && s.cursorVisible

/-- Rule R197: a cell with the cursor block over it where it is drawn. -/
def State.overlayCursor (s : State) (ma : CellAddr) (cell : Cell) : List Ink :=
  if s.drawCursor ma then s.solidCell cell.2 else cell.1

/-- Rule R181: the pixels of the text cell at `ma`, by the cell rule of a strategy. -/
def State.textCell (s : State) (cell : Byte → Byte → Row → Cell) (row : Row) (ma : CellAddr) : List Ink :=
  s.overlayCursor ma (cell (s.cellChar ma) (s.cellAttr ma) row)

/-- Rule R181: TextLine, `crtc[1]` cells from `memoryAddress`. -/
def State.textLine (s : State) (cell : Byte → Byte → Row → Cell) (row : Row) : List Ink × CellAddr :=
  lineCells (s.textCell cell row) s.columns s.memoryAddress

/-- Rule R189: RenderTextROM. -/
def State.renderTextRom (s : State) (row : Row) : List Ink × CellAddr := s.textLine s.cellRom row

/-- Rule R190: RenderTextRAM4K. -/
def State.renderText4K (s : State) (row : Row) : List Ink × CellAddr := s.textLine s.cell4K row

/-- Rule R192: RenderTextRAM48K. -/
def State.renderText48K (s : State) (row : Row) : List Ink × CellAddr := s.textLine s.cell48K row

end Sys2Proof.Machine
end

