-- ==== Sys2Proof/Machine/Timing.lean ====
section
/-! DEFINITION. The timing state machine and the period recomputation (spec/41_timing.md). Each definition is one named
step of that file, and the two halves run the steps in the order rules R138 and R145 give. -/

namespace Sys2Proof.Machine

/-! ### Periods (rules R161 and R162) -/

/-- `blank` of rule R161: signed, and negative when more columns are displayed than the total has. -/
def State.blankColumns (s : State) : Int := ((s.regNat 0 : Int) + 1) - (s.regNat 1 : Int)

/-- Rule R161: the period of an active half. -/
def State.visibleTicks (s : State) : Nat := s.regNat 1 * s.tickScale

/-- Rule R161: RecomputeTiming. A negative blank makes one draw of rule R162. -/
def State.recomputeTiming (s : State) : State :=
  if 0 ≤ s.blankColumns then s.withPeriods s.visibleTicks (s.blankColumns.toNat * s.tickScale)
  else (s.withPeriods s.visibleTicks (Config.freeBlankPeriod s.drawCount)).countDraw

/-- Rule R137: Schedule(p). -/
def State.schedule (s : State) (p : Nat) : State :=
  (s.emit (.schedule p)).withDeviceTime (s.accumulatedDeviceTime + p)

/-! ### The blank half (rules R138 to R144) -/

/-- Rule R141: VisibleLineBookkeeping. -/
def State.visibleLineBookkeeping (s : State) : State :=
  (if (s.displayLine : Int) < s.firstVisibleLine then (s.withFirstLine s.displayLine).emit .waitForBuffer
   else s).withLastLine s.displayLine

/-- Rule R142: the pixels of the line and the address after it, by the strategy the registers select. -/
def State.renderLine (s : State) (row : Row) : List Ink × CellAddr :=
  if s.graphicsMode then s.renderGraphics row
  else match s.textVariant with
    | .rom => s.renderTextRom row
    | .ram4K => s.renderText4K row
    | .ram48K => s.renderText48K row

/-- Rule R142: RenderAndEmit. -/
def State.renderAndEmit (s : State) (row : Row) : State :=
  (s.withAddress (s.renderLine row).2).emit (.line s.displayLine (s.renderLine row).1)

/-- The part of rule R138 that runs only when `displayActive`. -/
def State.renderVisible (s : State) (row : Row) : State :=
  if s.displayActive then s.visibleLineBookkeeping.renderAndEmit row else s

/-- Rule R143: VsyncStart. -/
def State.vsyncStart (s : State) : State :=
  if s.atRow 7 ∧ s.scanlineCounter = 0 then s.setVsync else s

/-- Rule R144: AdvanceDisplayLine. -/
def State.advanceDisplayLine (s : State) : State := s.withDisplayLine ((s.displayLine + 1) % Config.displayLines)

/-- Rule R139: what a blank half sets at once. -/
def State.enterBlankHalf (s : State) : State := (s.withHalf true).setInProgress

/-- Rule R138: BlankHalf. -/
def State.blankHalf (s : State) : State :=
  ((((s.schedule s.blankPeriodTicks).enterBlankHalf).renderVisible s.renderRow).vsyncStart).advanceDisplayLine

/-! ### The active half (rules R145 to R160) -/

/-- Rule R146: clear INPROG while `displayActive`, and end the scanline. -/
def State.leaveScanline (s : State) : State := (if s.displayActive then s.clearInProgress else s).withHalf false

/-- Rule R147: VsyncCountdown. -/
def State.vsyncCountdown (s : State) : State :=
  if s.verticalSyncRemaining = 0 then s
  else if s.verticalSyncRemaining = 1 then (s.withVsync 0).clearVsync
  else s.withVsync (s.verticalSyncRemaining - 1)

/-- Rule R148: CursorOffBoundary. -/
def State.cursorOffBoundary (s : State) : State :=
  if s.atCursorRow s.cursorEndRow then s.withCursorWindow false true else s

/-- The reload of rules R149 and R152: display on, both address cursors at the start address. -/
def State.restartDisplay (s : State) : State :=
  ((s.withDisplay true).withAddress s.startAddress).withRowStart s.startAddress

/-- Rule R159: NextScanline; the first two lines of rule R149 are the same. -/
def State.nextScanline (s : State) : State :=
  (s.withScanline (s.scanlineCounter + 1)).withAddress s.memoryAddressBackup

/-- Rule R149: AdjustLine, whose last scanline restarts the display. -/
def State.adjustLine (s : State) : State :=
  if s.verticalAdjustRemaining = 1 then ((s.nextScanline.withAdjust 0).restartDisplay).withScanline 0
  else s.nextScanline.withAdjust (s.verticalAdjustRemaining - 1)

/-- Rule R151: DisplayedRowsDone. -/
def State.displayedRowsDone (s : State) : State := if s.atRow 6 then s.withDisplay false else s

/-- Rule R153: what CursorVisibility makes of `cursoron`. -/
def State.cursorGate (s : State) : Bool :=
  if s.cursorMode = 1 then false
  else if s.cursorMode = 3 then s.blinkCounter.getLsbD 4
  else s.blinkCounter.getLsbD 3

/-- Rule R152: FrameWrap. -/
def State.frameWrap (s : State) : State :=
  let t := (s.withRow 0).withAdjust (s.reg 5)
  (if s.reg 5 = 0 then t.restartDisplay else t).withCursorVisible s.cursorGate

/-- Rule R155: the frame width, from the mode at this half. -/
def State.frameWidth (s : State) : Int :=
  (if s.graphicsMode then Config.graphicsCellPixels else Config.textFrameCell) * (s.regNat 1 : Int)

/-- Rule R155: the frame height, signed. -/
def State.frameHeight (s : State) : Int := s.lastVisibleLine - s.firstVisibleLine + 1

/-- Rule R156: a width below the minimum is replaced. -/
def State.clampWidth (s : State) (w : Int) : Int := if w < s.params.minWidth then s.params.defWidth else w

/-- Rule R156: a height below the minimum is replaced. -/
def State.clampHeight (s : State) (h : Int) : Int := if h < s.params.minHeight then s.params.defHeight else h

/-- Rule R156: ResizeIfChanged. -/
def State.resizeIfChanged (s : State) (w h : Int) : State :=
  if w ≠ s.screenW ∨ h ≠ s.screenH then
    (s.withScreen (s.clampWidth w) (s.clampHeight h)).emit (.resize (s.clampWidth w) (s.clampHeight h))
  else s

/-- Rule R157: BlitFrame. -/
def State.blitFrame (s : State) (h : Int) : State :=
  (s.emit (.blit s.firstVisibleLine h s.screenW h)).withFrame (s.frameCounter + 1)

/-- Rule R158: ResetFrameBookkeeping. -/
def State.resetFrameBookkeeping (s : State) : State :=
  ((s.withFirstLine s.params.firstReset).withLastLine 0).withBlink (s.blinkCounter + 1)

/-- Rule R155: FrameEnd. -/
def State.frameEnd (s : State) : State :=
  ((s.resizeIfChanged s.frameWidth s.frameHeight).blitFrame s.frameHeight).resetFrameBookkeeping

/-- Rule R154: VsyncRow. -/
def State.vsyncRow (s : State) : State :=
  let t := ((s.withDisplay false).withDisplayLine 0).withVsync Config.vsyncLines
  if s.reg 7 = 0 then t else t.frameEnd

/-- Rule R150: EndOfRow's own assignments. -/
def State.startNextRow (s : State) : State :=
  ((s.withRowStart s.memoryAddress).withScanline 0).withRow (s.verticalCounter + 1)

/-- Rule R150: EndOfRow up to the frame wrap. The row compared with `crtc[4]` is the one before the increment. -/
def State.wrapRows (s : State) : State :=
  if s.atRow 4 then (s.startNextRow.displayedRowsDone).frameWrap else s.startNextRow.displayedRowsDone

/-- Rule R150: EndOfRow. -/
def State.endOfRow (s : State) : State := if s.wrapRows.atRow 7 then s.wrapRows.vsyncRow else s.wrapRows

/-- Rule R145: the one branch of the scanline's end that runs. -/
def State.endScanline (s : State) : State :=
  if s.verticalAdjustRemaining ≠ 0 then s.adjustLine
  else if s.rowEnd then s.endOfRow
  else s.nextScanline

/-- Rule R160: CursorOnBoundary. -/
def State.cursorOnBoundary (s : State) : State :=
  if s.atCursorRow s.cursorStartRow then s.withCursorWindow true s.cursorDisabledWindow else s

/-- The steps of rule R145 before the scanline's end. -/
def State.openActiveHalf (s : State) : State :=
  (((s.schedule s.visiblePeriodTicks).leaveScanline).vsyncCountdown).cursorOffBoundary

/-- Rule R145: ActiveHalf. -/
def State.activeHalf (s : State) : State := s.openActiveHalf.endScanline.cursorOnBoundary

/-- Rule R136: one advance() call. -/
def State.advance (s : State) : State := if s.lineInFramePosition then s.activeHalf else s.blankHalf

end Sys2Proof.Machine
end

