-- ==== Sys2Proof/Machine/Life.lean ====
section
/-! DEFINITION. The lifecycle transactions (spec/70_reset_and_hazards.md rules R236 to R241). -/

namespace Sys2Proof.Machine

/-- The first line of rule R236: every device field at its value of rule R55. The model's own fields stay. -/
def State.resetDevice (s : State) : State :=
  { State.reset with
    palette := s.params.defaultPalette
    screenW := s.params.hostInitWidth
    screenH := s.params.hostInitHeight
    visiblePeriodTicks := 0
    blankPeriodTicks := 0
    events := []
    lifecycle := s.lifecycle
    params := s.params
    pending := s.pending
    hostTickScale := s.hostTickScale
    hostWriteBypass := s.hostWriteBypass
    reply := s.reply
    drawCount := s.drawCount }

/-- Rule R238: the three claims, in the order of rule R236. -/
def State.announce (s : State) : State :=
  ((s.emit (.claimPorts s.params.portBase Config.portCount)).emit
    (.mapWindow s.params.vramBase Window.w32K.bytes)).emit .registerTick

/-- The other lines of rule R236, on a device whose fields are reset: the scale, the three claims, the periods. -/
def State.launch (s : State) : State :=
  (((s.withScale s.hostTickScale).announce).recomputeTiming).withLifecycle .live

/-- Rule R241: the host's new clock. -/
def State.changeSpeed (s : State) : State := (s.withScale s.hostTickScale).recomputeTiming

/-- Rules R236 and R241: P_TICK_SCALE is a positive integer; a host that sends 0 is refused (rule R234). -/
def State.whenScalePositive (s : State) (o : Host.Outcome State Fault Refusal) : Host.Outcome State Fault Refusal :=
  if s.hostTickScale = 0 then .refused .tickScaleNotPositive else o

/-- INIT, rule R236: only where there is no device yet (rule R240). -/
def execInit (s : State) : Host.Outcome State Fault Refusal :=
  match s.lifecycle with
  | .uncreated => s.whenScalePositive (.next s.resetDevice.launch)
  | .live => .refused .secondInit
  | .closed => .refused .afterClose

/-- CLOSE, rule R239: no event. -/
def execClose (s : State) : Host.Outcome State Fault Refusal := s.whenLive (s.withLifecycle .closed)

/-- SPEED, rule R241. -/
def execSpeed (s : State) : Host.Outcome State Fault Refusal :=
  match s.lifecycle with
  | .uncreated => .refused .beforeInit
  | .live => s.whenScalePositive (.next s.changeSpeed)
  | .closed => .refused .afterClose

end Sys2Proof.Machine
end

