-- ==== Sys2Proof/Machine/Port.lean ====
section
/-! DEFINITION. The port transactions (spec/40_ports.md). The port offset of an index or data transaction only names which
of four equal ports was used (rule R88). -/

namespace Sys2Proof.Machine

/-- Rule R119: CursorCorrection, on whole bytes. -/
def State.cursorCorrection (s : State) : State :=
  if s.reg 10 = 6 ∧ s.reg 11 = 7 then (s.setReg 10 11).setReg 11 12 else s

/-- Rule R117: `crtcIndex <- v & 0x1F`. -/
def State.writeIndex (s : State) (v : Byte) : State := s.withIndex (v.extractLsb' 0 5)

/-- Rules R118 and R124: whether the selected register can be accessed. -/
def State.indexAccessible (s : State) : Bool := decide (s.crtcIndex.toNat ≤ Config.lastWritable.toNat)

/-- Rule R118: the data write, dropped above register 22. -/
def State.writeData (s : State) (v : Byte) : State :=
  if s.indexAccessible then ((s.setReg s.crtcIndex v).cursorCorrection).recomputeTiming else s

/-- Rule R120: `mode <- v`. -/
def State.writeMode (s : State) (v : Byte) : State := s.withMode v

/-- Rule R121: the configuration write, which announces the window every time. -/
def State.writeConfig (s : State) (v : Byte) : State :=
  let w := (s.withModeExt v).configuredWindow
  ((s.withModeExt v).withWindow w).emit (.mapWindow s.params.vramBase w.bytes)

/-- Rule R124: the byte a data read returns. -/
def State.dataRead (s : State) : Byte := if s.indexAccessible then s.reg s.crtcIndex else Config.readSentinel

/-- IOW_INDEX, rule R117. -/
def execIowIndex (_off : BitVec 4) (v : Byte) (s : State) : Host.Outcome State Fault Refusal :=
  s.whenLive (s.writeIndex v)

/-- IOW_DATA, rule R118. -/
def execIowData (_off : BitVec 4) (v : Byte) (s : State) : Host.Outcome State Fault Refusal :=
  s.whenLive (s.writeData v)

/-- IOW_MODE, rule R120. -/
def execIowMode (v : Byte) (s : State) : Host.Outcome State Fault Refusal := s.whenLive (s.writeMode v)

/-- IOW_CONFIG, rule R121. -/
def execIowConfig (v : Byte) (s : State) : Host.Outcome State Fault Refusal := s.whenLive (s.writeConfig v)

/-- IOW_UNASSIGNED_9, ignored (rule R122). -/
def execIowUnassigned9 (_v : Byte) (s : State) : Host.Outcome State Fault Refusal := s.whenLive s

/-- IOW_UNASSIGNED_A, by default the read-only status port: ignored (rule R122). -/
def execIowUnassignedA (_v : Byte) (s : State) : Host.Outcome State Fault Refusal := s.whenLive s

/-- IOW_UNASSIGNED_B, ignored (rule R122). -/
def execIowUnassignedB (_v : Byte) (s : State) : Host.Outcome State Fault Refusal := s.whenLive s

/-- IOW_UNASSIGNED_C, ignored (rule R122). -/
def execIowUnassignedC (_v : Byte) (s : State) : Host.Outcome State Fault Refusal := s.whenLive s

/-- IOW_UNASSIGNED_D, ignored (rule R122). -/
def execIowUnassignedD (_v : Byte) (s : State) : Host.Outcome State Fault Refusal := s.whenLive s

/-- IOW_UNASSIGNED_E, ignored (rule R122). -/
def execIowUnassignedE (_v : Byte) (s : State) : Host.Outcome State Fault Refusal := s.whenLive s

/-- IOR_INDEX, rule R123: `zext_8(crtcIndex)`. -/
def execIorIndex (_off : BitVec 4) (s : State) : Host.Outcome State Fault Refusal :=
  s.whenLive (s.answer (s.crtcIndex.setWidth 8))

/-- IOR_DATA, rule R124. -/
def execIorData (_off : BitVec 4) (s : State) : Host.Outcome State Fault Refusal := s.whenLive (s.answer s.dataRead)

/-- IOR_STATUS, rule R125. -/
def execIorStatus (s : State) : Host.Outcome State Fault Refusal := s.whenLive (s.answer s.statusRead)

/-- IOR_UNASSIGNED_8, by default the write-only mode port, rule R126. -/
def execIorUnassigned8 (s : State) : Host.Outcome State Fault Refusal := s.whenLive (s.answer Config.readSentinel)

/-- IOR_UNASSIGNED_9, rule R126. -/
def execIorUnassigned9 (s : State) : Host.Outcome State Fault Refusal := s.whenLive (s.answer Config.readSentinel)

/-- IOR_UNASSIGNED_B, rule R126. -/
def execIorUnassignedB (s : State) : Host.Outcome State Fault Refusal := s.whenLive (s.answer Config.readSentinel)

/-- IOR_UNASSIGNED_C, rule R126. -/
def execIorUnassignedC (s : State) : Host.Outcome State Fault Refusal := s.whenLive (s.answer Config.readSentinel)

/-- IOR_UNASSIGNED_D, rule R126. -/
def execIorUnassignedD (s : State) : Host.Outcome State Fault Refusal := s.whenLive (s.answer Config.readSentinel)

/-- IOR_UNASSIGNED_E, rule R126. -/
def execIorUnassignedE (s : State) : Host.Outcome State Fault Refusal := s.whenLive (s.answer Config.readSentinel)

/-- IOR_UNASSIGNED_F, by default the write-only configuration port, rule R126. -/
def execIorUnassignedF (s : State) : Host.Outcome State Fault Refusal := s.whenLive (s.answer Config.readSentinel)

end Sys2Proof.Machine
end

