-- ==== Sys2Proof/Machine/Tick.lean ====
section
/-! DEFINITION. The scheduler transaction (rule R136). -/

namespace Sys2Proof.Machine

/-- TICK, rule R136. -/
def execTick (s : State) : Host.Outcome State Fault Refusal := s.whenLive s.advance

end Sys2Proof.Machine
end

