-- ==== Sys2Proof/Machine/Vram.lean ====
section
/-! DEFINITION. The VRAM window transactions and the bus routing in front of them (spec/45_vram_window.md, rules R62 and
R63). -/

namespace Sys2Proof.Machine

/-- Rules R213 and R214: the write, discarded whole when the host's bypass verdict is true. -/
def State.windowWrite (s : State) (a : Offset) (v : Byte) : State :=
  if s.hostWriteBypass then s else s.memWrite a v

/-- MEMW, rule R213. -/
def execMemw (a : Offset) (v : Byte) (s : State) : Host.Outcome State Fault Refusal := s.whenLive (s.windowWrite a v)

/-- MEMR, rule R215. -/
def execMemr (a : Offset) (s : State) : Host.Outcome State Fault Refusal := s.whenLive (s.answer (s.memRead a))

/-! ### What the collaborators route here

Neither function reads the lifecycle. Rule R239 says that the source does not say whether CLOSE withdraws the claims of
rule R238; here they are not withdrawn, and before INIT makes them the same addresses are routed. No step reads either
function, and before INIT and after CLOSE each port or memory transaction is refused (rule R240). DESIGN CHOICE,
unsafe: notes/assumptions/22.md. -/

/-- Rule R63: the VRAM offset of a CPU memory cycle the bus routes to the device, none for one it does not; before INIT
and after CLOSE as on a live device (DESIGN CHOICE, unsafe: notes/assumptions/22.md). -/
def State.routeMemory (s : State) (physical : Nat) : Option Offset :=
  if s.params.vramBase ≤ physical ∧ physical < s.params.vramBase + s.claimedWindow.bytes then
    some (BitVec.ofNat 16 physical)
  else none

/-- Rules R9 and R62: the port offset of an I/O address the port dispatch routes to the device, none for one it does
not; before INIT and after CLOSE as on a live device (DESIGN CHOICE, unsafe: notes/assumptions/22.md). -/
def State.routePort (s : State) (address : Nat) : Option (BitVec 4) :=
  if s.params.portBase ≤ address ∧ address < s.params.portBase + Config.portCount then
    some (BitVec.ofNat 4 (address - s.params.portBase))
  else none

end Sys2Proof.Machine
end

