-- ==== Sys2Proof/Machine/Dispatch.lean ====
section
/-! DEFINITION. Which meaning each transaction has: one arm for each constructor of `Instr`. -/

namespace Sys2Proof.Machine

/-- The effect of one transaction. -/
def exec (i : Instr) (s : State) : Host.Outcome State Fault Refusal :=
  match i with
  | .iowIndex off v => Sys2Proof.Machine.execIowIndex off v s
  | .iowData off v => Sys2Proof.Machine.execIowData off v s
  | .iowMode v => Sys2Proof.Machine.execIowMode v s
  | .iowUnassigned9 v => Sys2Proof.Machine.execIowUnassigned9 v s
  | .iowUnassignedA v => Sys2Proof.Machine.execIowUnassignedA v s
  | .iowUnassignedB v => Sys2Proof.Machine.execIowUnassignedB v s
  | .iowUnassignedC v => Sys2Proof.Machine.execIowUnassignedC v s
  | .iowUnassignedD v => Sys2Proof.Machine.execIowUnassignedD v s
  | .iowUnassignedE v => Sys2Proof.Machine.execIowUnassignedE v s
  | .iowConfig v => Sys2Proof.Machine.execIowConfig v s
  | .iorIndex off => Sys2Proof.Machine.execIorIndex off s
  | .iorData off => Sys2Proof.Machine.execIorData off s
  | .iorStatus => Sys2Proof.Machine.execIorStatus s
  | .iorUnassigned8 => Sys2Proof.Machine.execIorUnassigned8 s
  | .iorUnassigned9 => Sys2Proof.Machine.execIorUnassigned9 s
  | .iorUnassignedB => Sys2Proof.Machine.execIorUnassignedB s
  | .iorUnassignedC => Sys2Proof.Machine.execIorUnassignedC s
  | .iorUnassignedD => Sys2Proof.Machine.execIorUnassignedD s
  | .iorUnassignedE => Sys2Proof.Machine.execIorUnassignedE s
  | .iorUnassignedF => Sys2Proof.Machine.execIorUnassignedF s
  | .memw a v => Sys2Proof.Machine.execMemw a v s
  | .memr a => Sys2Proof.Machine.execMemr a s
  | .tick => Sys2Proof.Machine.execTick s
  | .init => Sys2Proof.Machine.execInit s
  | .close => Sys2Proof.Machine.execClose s
  | .speed => Sys2Proof.Machine.execSpeed s

end Sys2Proof.Machine
end

