-- ==== Sys2Proof/Machine/Fetch.lean ====
section
/-! DEFINITION. How the next transaction reaches the device: the host's stream is a queue, oldest first (rules R69 and
R234), and each transaction brings the host values its word does not hold (rule R81). -/

namespace Sys2Proof.Machine

/-- The state in which a transaction runs: it has left the queue, its host values are in hand, and no byte has been
returned yet. -/
def State.accept (s : State) (r : Request) (rest : List Request) : State :=
  { s with pending := rest, hostTickScale := r.tickScale, hostWriteBypass := r.writeBypass, reply := none }

/-- The queue with one more transaction in front of the others. -/
def State.sendFirst (s : State) (r : Request) : State := { s with pending := r :: s.pending }

/-- What the device does next. With nothing pending it does nothing (rule R233); a word that spells no transaction is
refused (rule R86); any other runs. -/
def State.runNext (s : State) : Host.Outcome State Fault Refusal :=
  match s.pending with
  | [] => .next s
  | r :: rest =>
    match decode s.params r.word with
    | .ok i => exec i (s.accept r rest)
    | .error why => .refused (.illegalWord why)

end Sys2Proof.Machine
end

