-- ==== Sys2Proof/Machine/Step.lean ====
section
/-! DEFINITION. One step of the machine: the next transaction of the host's stream, as one atomic step (rule R14). -/

namespace Sys2Proof.Machine

/-- One step: next state, fault or refusal. -/
def step (s : State) : Host.Outcome State Fault Refusal := s.runNext

/-- The state with the transaction word `w` sent first, so that the next step runs it (notes/assumptions/8.md). The word
carries the default host values: P_TICK_SCALE = 1 and no bypass. -/
def State.withFetchWord (s : State) (nbits w : Nat) : State := s.sendFirst { word := tableWord nbits w }

end Sys2Proof.Machine
end

