-- ==== Sys2Proof/Safety.lean ====
section
/-! DEFINITION. What counts as a sound state and as a host that keeps its duties, in the terms the statements use. -/

namespace Sys2Proof.Machine

/-- What the specification says of every state a device can be in. -/
structure State.Sound (s : State) : Prop where
  /-- VRAM is in canonical form: no offset of 65536 or more (rule R49). -/
  vram_canonical : Memory.wf s.vram = true
  /-- Only INPROG and VSYNC are ever set (rule R31). -/
  status_bits : s.status &&& 0xF6 = 0
  /-- The output line is in 0..499 (rules R37 and R164). -/
  line_in_range : s.displayLine < 500
  /-- The vertical-sync countdown is in 0..16 (rule R40). -/
  vsync_in_range : s.verticalSyncRemaining.toNat ≤ 16
  /-- The scale is a positive integer (rule R48). -/
  scale_positive : 0 < s.tickScale
  /-- The visible period is the formula of rule R161 on the current registers (rule R163). -/
  visible_period : s.visiblePeriodTicks = (s.reg 1).toNat * s.tickScale
  /-- So is the blank period, unless the blank is negative (rules R162 and R163). -/
  blank_period : (s.reg 1).toNat ≤ (s.reg 0).toNat + 1 →
    s.blankPeriodTicks = ((s.reg 0).toNat + 1 - (s.reg 1).toNat) * s.tickScale
  /-- The pair (6, 7) is never stored (rules R119 and R247). -/
  cursor_pair : ¬(s.reg 10 = 6 ∧ s.reg 11 = 7)
  /-- Registers 23..31 keep their reset value (rules R26 and I-RES-1). -/
  reserved_zero : ∀ i : BitVec 5, 22 < i.toNat → s.reg i = 0
  /-- The claimed window is the one the configuration byte asks for (rules R50 and R121). -/
  window_follows : s.claimedWindow = if s.modeExt.getLsbD 1 then .w64K else .w32K
  /-- No transaction writes the palette (rules R6 and R32). -/
  palette_default : s.palette = s.params.defaultPalette
  /-- No transaction writes the palette-extension cursor (rule R33). -/
  pal_cursor_zero : s.palExtCursor = 0
  /-- No transaction enables the palette extension (rule R33). -/
  pal_disabled : s.palExtEnable = false
  /-- The first visible line is an output line or P_FIRST_RESET (rule R41). -/
  first_line : (0 ≤ s.firstVisibleLine ∧ s.firstVisibleLine < 500) ∨ s.firstVisibleLine = s.params.firstReset
  /-- The last visible line is an output line (rule R41). -/
  last_line : 0 ≤ s.lastVisibleLine ∧ s.lastVisibleLine < 500

/-- A transaction that a host keeping its duties may send to a live device (rule R234): its word is legal, it creates no
second device, a speed change carries a positive scale, and it does not end the device. -/
def Request.dutiful (r : Request) (p : Params) : Bool :=
  match decode p r.word with
  | .error _ => false
  | .ok .init => false
  | .ok .close => false
  | .ok .speed => decide (0 < r.tickScale)
  | .ok _ => true

/-- A request for a scheduler tick. -/
def tickRequest : Request := { word := 0x40000000 }

end Sys2Proof.Machine
end

