-- ==== Sys2Proof/Certificates/Slice0/Obligations.lean ====
section
/-! DEFINITION. The statements for the provers, each from the numbered rules its entry of OBLIGATIONS.json cites. A next
state is given either whole, or by the equation that puts the named fields back and finds the old state, which says at
once that no other field changed. -/

open Sys2Proof Sys2Proof.Machine

/-! ### Encoding -/

/-- Rules R81 to R84 and R87: under every legal choice of the three port offsets, the encoder's word of every
well-formed transaction decodes to that transaction, with every operand at every value. The word layout is the
specification's decision D37; which offsets are legal is DEDUCED, and the row an unassigned offset takes where a named
register has moved is the model's choice (notes/assumptions/2.md). -/
def Obligations.DecodeOfEncodeIsTheInstruction : Prop :=
  ∀ (p : Params) (i : Instr), p.PortsLegal → i.wf = true → decode p (encode p i) = .ok i

/-- Rule R85 (decision D37): under every legal choice of the port offsets (DEDUCED, notes/assumptions/2.md), a word
that decodes is, outside the fields of its kind that are don't-care, the encoder's word of what it decodes to, and
what it decodes to is well formed. -/
def Obligations.DecodedWordsAreEncodingsUpToIgnoredFields : Prop :=
  ∀ (p : Params) (w : Word32) (i : Instr), p.PortsLegal → decode p w = .ok i →
    i.wf = true ∧
    encode p i = w &&& (if w.extractLsb' 28 4 = 0 ∨ w.extractLsb' 28 4 = 2 then 0xFFFFFFFF
                        else if w.extractLsb' 28 4 = 1 ∨ w.extractLsb' 28 4 = 3 then 0xFFFFFF00
                        else 0xFF000000)

/-- Rule R86 (decision D37): the words refused are exactly those with K of 8 or more, or Z not 0, or a port kind with
A[15:4] not 0, whatever the parameters; and the step that meets one is a refusal. -/
def Obligations.ExactlyTheIllegalWordsAreRefused : Prop :=
  (∀ (p : Params) (w : Word32), (∃ e, decode p w = .error e) ↔
    (8 ≤ (w.extractLsb' 28 4).toNat ∨ w.extractLsb' 24 4 ≠ 0 ∨
      ((w.extractLsb' 28 4).toNat ≤ 1 ∧ w.extractLsb' 12 12 ≠ 0))) ∧
  (∀ (s : State) (r : Request) (rest : List Request), s.pending = r :: rest →
    (8 ≤ (r.word.extractLsb' 28 4).toNat ∨ r.word.extractLsb' 24 4 ≠ 0 ∨
      ((r.word.extractLsb' 28 4).toNat ≤ 1 ∧ r.word.extractLsb' 12 12 ≠ 0)) →
    ∃ e, step s = .refused (.illegalWord e))

/-- Rules R81 to R87: words written out from the word's fields decode to the transactions they stand for (the word
layout is decision D37). The words 0x00000F03 and 0x10000A5C name the configuration and the status port at the default
offsets 0xF and 0xA of P_OFF_CONFIG and P_OFF_STATUS, which are PRESUMED (notes/assumptions/2.md). -/
def Obligations.SpelledOutWordsDecode : Prop :=
  decode Params.default 0x00000400 = .ok (.iowIndex 4 0) ∧ decode Params.default 0x00000561 = .ok (.iowData 5 0x61) ∧
  decode Params.default 0x00000F03 = .ok (.iowConfig 3) ∧ decode Params.default 0x10000A5C = .ok .iorStatus ∧
  decode Params.default 0x201234A5 = .ok (.memw 0x1234 0xA5) ∧ decode Params.default 0x30FFFF00 = .ok (.memr 0xFFFF) ∧
  decode Params.default 0x40ABCDEF = .ok .tick ∧ decode Params.default 0x70000000 = .ok .speed ∧
  decode Params.default 0x80000000 = .error .reservedKind ∧ decode Params.default 0x01000400 = .error .reservedBits ∧
  decode Params.default 0x00001400 = .error .portAddressHigh

/-! ### The step -/

/-- The model's stream of transactions (notes/assumptions/8.md, DESIGN CHOICE): a step takes the oldest transaction,
puts the host values that came with it in hand and clears the reply; if its word decodes, the step is exec of the
decoded transaction there. With nothing pending the step changes nothing (rule R233). -/
def Obligations.StepRunsTheDecodedTransaction : Prop :=
  (∀ (s : State) (r : Request) (rest : List Request) (i : Instr),
    s.pending = r :: rest → decode s.params r.word = .ok i →
    step s = exec i { s with pending := rest, hostTickScale := r.tickScale, hostWriteBypass := r.writeBypass,
                             reply := none }) ∧
  (∀ s : State, s.pending = [] → step s = .next s)

/-- Rule R240: before INIT every transaction but INIT is refused, on a live device INIT is refused, and after CLOSE
every transaction is. -/
def Obligations.TransactionsOutsideTheLifetimeAreRefused : Prop :=
  ∀ (i : Instr) (s : State),
    (s.lifecycle = .uncreated → i ≠ .init → exec i s = .refused .beforeInit) ∧
    (s.lifecycle = .live → i = .init → exec i s = .refused .secondInit) ∧
    (s.lifecycle = .closed → exec i s = .refused .afterClose)

/-- Rules R128 and R221: on a live device every transaction but INIT has a result, given a positive scale for SPEED;
only CLOSE ends the device, and no transaction touches the queue or the parameters. -/
def Obligations.LiveDeviceRunsEveryTransaction : Prop :=
  ∀ (i : Instr) (s : State), s.lifecycle = .live → i ≠ .init → (i = .speed → 0 < s.hostTickScale) →
    ∃ t, exec i s = .next t ∧ (t.lifecycle = if i = .close then .closed else .live) ∧
      t.pending = s.pending ∧ t.params = s.params

/-- Rules R128 and R234: a live device whose pending transactions are those of a host that keeps its duties is never
refused and stays live, however many steps run. -/
def Obligations.DutifulHostIsNeverRefused : Prop :=
  ∀ (n : Nat) (s : State), s.lifecycle = .live → (∀ r ∈ s.pending, r.dutiful s.params = true) →
    ∃ t : State, Host.Core.run Sys2Proof.core n s = .next t ∧ t.lifecycle = .live ∧
      t.pending = s.pending.drop n

/-! ### Lifecycle -/

/-- Rules R236, R238 and R55: INIT, where there is no device, leaves every field at its reset value, with the host's
scale and the three claims. Zero for registers and counters is the specification's decision D9. The fields kept are the
model's own. -/
def Obligations.InitLeavesTheResetValues : Prop :=
  ∀ s : State, s.lifecycle = .uncreated → 0 < s.hostTickScale →
    exec .init s = .next
      { crtc := Vector.replicate 32 0, crtcIndex := 0, mode := 0, modeExt := 0, status := 0
        palette := s.params.defaultPalette, palExtCursor := 0, palExtEnable := false
        verticalCounter := 0, scanlineCounter := 0, displayLine := 0, lineInFramePosition := false
        verticalAdjustRemaining := 0, verticalSyncRemaining := 0, firstVisibleLine := 0, lastVisibleLine := 0
        displayActive := false, memoryAddress := 0, memoryAddressBackup := 0, cursorEnabledWindow := false
        cursorDisabledWindow := false, cursorVisible := false, blinkCounter := 0
        visiblePeriodTicks := 0, blankPeriodTicks := s.hostTickScale, tickScale := s.hostTickScale
        accumulatedDeviceTime := 0, vram := [], claimedWindow := .w32K
        screenW := s.params.hostInitWidth, screenH := s.params.hostInitHeight, frameCounter := 0
        events := [.claimPorts s.params.portBase 16, .mapWindow s.params.vramBase 32768, .registerTick]
        lifecycle := .live, params := s.params, pending := s.pending, hostTickScale := s.hostTickScale
        hostWriteBypass := s.hostWriteBypass, reply := s.reply, drawCount := s.drawCount }

/-- INIT whose host sends the scale 0 is refused. Rule R236 asks for a positive integer, and the refusal of a host that
breaks its duty is rule R234's; the refusal's name is the model's. -/
def Obligations.InitAndSpeedRefuseScaleZero : Prop :=
  ∀ s : State, s.hostTickScale = 0 →
    (s.lifecycle = .uncreated → exec .init s = .refused .tickScaleNotPositive) ∧
    (s.lifecycle = .live → exec .speed s = .refused .tickScaleNotPositive)

/-- Rule R239: CLOSE, whose A and D are ignored, changes the lifecycle and nothing else; it emits no event. -/
def Obligations.CloseOnlyEndsTheDevice : Prop :=
  ∀ (s : State) (x : BitVec 24), s.lifecycle = .live →
    decode s.params ((0x60 : BitVec 8) ++ x) = .ok .close ∧ exec .close s = .next { s with lifecycle := .closed }

/-- Rules R241 and R161 (decisions D10 and D36): SPEED takes the host's scale and recomputes both periods; nothing else
changes. -/
def Obligations.SpeedRescalesBothPeriods : Prop :=
  ∀ s : State, s.lifecycle = .live → 0 < s.hostTickScale → (s.reg 1).toNat ≤ (s.reg 0).toNat + 1 →
    exec .speed s = .next
      { s with tickScale := s.hostTickScale
               visiblePeriodTicks := (s.reg 1).toNat * s.hostTickScale
               blankPeriodTicks := ((s.reg 0).toNat + 1 - (s.reg 1).toNat) * s.hostTickScale }

/-- Rule R162: with a negative blank, SPEED leaves a blank period about which nothing is said, and the rest as rule R241
says. The draw counter is the model's own (notes/assumptions/6.md). -/
def Obligations.SpeedWithNegativeBlankDrawsThePeriod : Prop :=
  ∀ s : State, s.lifecycle = .live → 0 < s.hostTickScale → (s.reg 0).toNat + 1 < (s.reg 1).toNat →
    ∃ t, exec .speed s = .next t ∧ t.drawCount = s.drawCount + 1 ∧
      { t with blankPeriodTicks := s.blankPeriodTicks, drawCount := s.drawCount } =
        { s with tickScale := s.hostTickScale, visiblePeriodTicks := (s.reg 1).toNat * s.hostTickScale }

/-! ### Port writes -/

/-- Rule R117: an index write keeps the low 5 bits and changes nothing else, at each index port. -/
def Obligations.IndexWriteSelectsTheRegister : Prop :=
  ∀ (s : State) (off : BitVec 4) (v : Byte), s.lifecycle = .live → off = 0 ∨ off = 2 ∨ off = 4 ∨ off = 6 →
    decode s.params ((0 : BitVec 20) ++ off ++ v) = .ok (.iowIndex off v) ∧
    ∃ t, exec (.iowIndex off v) s = .next t ∧ t.crtcIndex.toNat = (v &&& 0x1F).toNat ∧
      { t with crtcIndex := s.crtcIndex } = s

/-- Rule R118, first branch: a data write with an index above 22 changes nothing. -/
def Obligations.DataWriteAboveRegister22IsDropped : Prop :=
  ∀ (s : State) (off : BitVec 4) (v : Byte), s.lifecycle = .live → 22 < s.crtcIndex.toNat →
    exec (.iowData off v) s = .next s

/-- Rules R118, R119 and R161: the words of an accepted data write are those of the four data ports (rule R87); it
stores the byte, replaces the pair (6, 7) of registers 10 and 11 by (11, 12), recomputes both periods from the
registers after that, and changes nothing else (decisions D8 and D10). -/
def Obligations.DataWriteStoresCorrectsAndRecomputes : Prop :=
  ∀ (s : State) (off : BitVec 4) (v : Byte), s.lifecycle = .live → s.crtcIndex.toNat ≤ 22 →
    (off = 1 ∨ off = 3 ∨ off = 5 ∨ off = 7 → decode s.params ((0 : BitVec 20) ++ off ++ v) = .ok (.iowData off v)) ∧
    ∃ t, exec (.iowData off v) s = .next t ∧
      (let written : BitVec 5 → Byte := fun j => if j = s.crtcIndex then v else s.reg j
       ∀ j, t.reg j =
        if written 10 = 6 ∧ written 11 = 7 then (if j = 10 then 11 else if j = 11 then 12 else written j)
        else written j) ∧
      t.visiblePeriodTicks = (t.reg 1).toNat * s.tickScale ∧
      ((t.reg 1).toNat ≤ (t.reg 0).toNat + 1 →
        t.blankPeriodTicks = ((t.reg 0).toNat + 1 - (t.reg 1).toNat) * s.tickScale ∧ t.drawCount = s.drawCount) ∧
      { t with crtc := s.crtc, visiblePeriodTicks := s.visiblePeriodTicks, blankPeriodTicks := s.blankPeriodTicks,
               drawCount := s.drawCount } = s

/-- Rule R119 and its example: programming 6 into register 10 and then 7 into register 11 through the ports leaves 11
and 12 there. Register 11 must not hold 7 before, or the first write already fires the correction (decision D8). -/
def Obligations.ProgrammingSixThenSevenStoresElevenAndTwelve : Prop :=
  ∀ (s : State) (rest : List Request), s.lifecycle = .live → s.reg 11 ≠ 7 →
    s.pending = { word := 0x0000040A } :: { word := 0x00000506 } :: { word := 0x0000040B } :: { word := 0x00000507 } :: rest →
    ∃ t : State, Host.Core.run Sys2Proof.core 4 s = .next t ∧ t.reg 10 = 11 ∧ t.reg 11 = 12 ∧
      ∀ j, j ≠ 10 → j ≠ 11 → t.reg j = s.reg j

/-- Rule R120: a mode write, at the offset P_OFF_MODE, stores the whole byte; no timing is recomputed. The offset is
any from 8 on (rules R87 and R88). -/
def Obligations.ModeWriteStoresTheByte : Prop :=
  ∀ (s : State) (v : Byte), s.lifecycle = .live →
    (8 ≤ s.params.offMode.toNat → decode s.params ((0 : BitVec 20) ++ s.params.offMode ++ v) = .ok (.iowMode v)) ∧
    exec (.iowMode v) s = .next { s with mode := v }

/-- Rule R121: a configuration write, at the offset P_OFF_CONFIG, stores the byte, claims 64K when bit 1 is set and
32K otherwise, and announces the window at the fixed base, every time (decisions D3 and D5). The offset is any from 8
on but P_OFF_MODE, which rule R116 names first (notes/assumptions/2.md). -/
def Obligations.ConfigWriteClaimsAndAnnouncesTheWindow : Prop :=
  ∀ (s : State) (v : Byte), s.lifecycle = .live →
    (8 ≤ s.params.offConfig.toNat → s.params.offConfig ≠ s.params.offMode →
      decode s.params ((0 : BitVec 20) ++ s.params.offConfig ++ v) = .ok (.iowConfig v)) ∧
    exec (.iowConfig v) s = .next
      { s with modeExt := v
               claimedWindow := if v.getLsbD 1 then .w64K else .w32K
               events := s.events ++ [.mapWindow s.params.vramBase (if v.getLsbD 1 then 65536 else 32768)] }

/-- Rules R122 and R87: a write to an offset of 8 or more that is neither P_OFF_MODE nor P_OFF_CONFIG, the read-only
status offset among them, is one of the six ignored rows, at the offset of its name the row of that name; and each of
the six changes nothing (the specification's decision D2). The row of an unassigned offset 8 or 0xF is the model's
choice (notes/assumptions/2.md) and is not said here. -/
def Obligations.UnassignedWritesChangeNothing : Prop :=
  ∀ (s : State) (v : Byte), s.lifecycle = .live →
    let rows : List (BitVec 4 × Instr) :=
      [(0x9, .iowUnassigned9 v), (0xA, .iowUnassignedA v), (0xB, .iowUnassignedB v), (0xC, .iowUnassignedC v),
       (0xD, .iowUnassignedD v), (0xE, .iowUnassignedE v)]
    (∀ off : BitVec 4, 8 ≤ off.toNat → off ≠ s.params.offMode → off ≠ s.params.offConfig →
      ∃ row ∈ rows, decode s.params ((0 : BitVec 20) ++ off ++ v) = .ok row.2) ∧
    ∀ row ∈ rows,
      (row.1 ≠ s.params.offMode → row.1 ≠ s.params.offConfig →
        decode s.params ((0 : BitVec 20) ++ row.1 ++ v) = .ok row.2) ∧
      exec row.2 s = .next s

/-! ### Port reads -/

/-- Rule R123: an index read returns the index, zero-extended, and changes nothing else, at each index port. -/
def Obligations.IndexReadReturnsTheIndex : Prop :=
  ∀ (s : State) (off : BitVec 4) (d : Byte), s.lifecycle = .live → off = 0 ∨ off = 2 ∨ off = 4 ∨ off = 6 →
    decode s.params ((0x10000 : BitVec 20) ++ off ++ d) = .ok (.iorIndex off) ∧
    ∃ b, exec (.iorIndex off) s = .next { s with reply := some b } ∧ b.toNat = s.crtcIndex.toNat ∧ b.toNat ≤ 0x1F

/-- Rule R124: a data read returns the selected register, or 0xFF above register 22, and changes nothing else, at each
data port. -/
def Obligations.DataReadReturnsTheRegisterOrAllOnes : Prop :=
  ∀ (s : State) (off : BitVec 4) (d : Byte), s.lifecycle = .live → off = 1 ∨ off = 3 ∨ off = 5 ∨ off = 7 →
    decode s.params ((0x10000 : BitVec 20) ++ off ++ d) = .ok (.iorData off) ∧
    exec (.iorData off) s = .next
      { s with reply := some (if 22 < s.crtcIndex.toNat then 0xFF else s.reg s.crtcIndex) }

/-- Rule R125: a status read, at the offset P_OFF_STATUS, returns the packed byte and changes nothing else. The offset
is any from 8 on (rules R87 and R88); D is ignored (rule R85). The bits' positions are decision D6. -/
def Obligations.StatusReadReturnsThePackedByte : Prop :=
  ∀ (s : State) (d : Byte), s.lifecycle = .live →
    (8 ≤ s.params.offStatus.toNat →
      decode s.params ((0x10000 : BitVec 20) ++ s.params.offStatus ++ d) = .ok .iorStatus) ∧
    exec .iorStatus s = .next
      { s with reply := some ((s.status &&& 0x0F) ||| ((s.status &&& 0x08) <<< 4) ||| s.params.statusId) }

/-- Rules R93 and R125, with the default identification pattern (PRESUMED, notes/assumptions/1.md) and the status bits
rule R31 allows: bit 0 of the byte read is INPROG, bits 3 and 7 are VSYNC, bit 4 is 1 and the others 0. -/
def Obligations.StatusReadShowsTheTwoFlags : Prop :=
  ∀ s : State, s.lifecycle = .live → s.status &&& 0xF6 = 0 → s.params.statusId = 0x10 →
    ∃ b, exec .iorStatus s = .next { s with reply := some b } ∧ b.getLsbD 0 = s.status.getLsbD 0 ∧
      b.getLsbD 3 = s.status.getLsbD 3 ∧ b.getLsbD 7 = s.status.getLsbD 3 ∧ b &&& 0x76 = 0x10

/-- Rules R126 and R87: a read of an offset of 8 or more that is not P_OFF_STATUS, the write-only ports among them, is
one of the seven rows that return 0xFF, at the offset of its name the row of that name; and each of the seven returns
0xFF and changes nothing else (the specification's decision D2). The row of an unassigned offset 0xA is the model's
choice (notes/assumptions/2.md) and is not said here. -/
def Obligations.UnassignedReadsReturnAllOnes : Prop :=
  ∀ (s : State) (d : Byte), s.lifecycle = .live →
    let rows : List (BitVec 4 × Instr) :=
      [(0x8, .iorUnassigned8), (0x9, .iorUnassigned9), (0xB, .iorUnassignedB), (0xC, .iorUnassignedC),
       (0xD, .iorUnassignedD), (0xE, .iorUnassignedE), (0xF, .iorUnassignedF)]
    (∀ off : BitVec 4, 8 ≤ off.toNat → off ≠ s.params.offStatus →
      ∃ row ∈ rows, decode s.params ((0x10000 : BitVec 20) ++ off ++ d) = .ok row.2) ∧
    ∀ row ∈ rows,
      (row.1 ≠ s.params.offStatus → decode s.params ((0x10000 : BitVec 20) ++ row.1 ++ d) = .ok row.2) ∧
      exec row.2 s = .next { s with reply := some 0xFF }

/-- Rules R116 and R240, with the table of rule R87: the port words at an offset run exactly the rule that the offset
and the parameters choose, under every legal choice of the three named offsets (DEDUCED, notes/assumptions/2.md). On a
live device the ignored writes (decision D2) change nothing and the reads with no function return 0xFF; after CLOSE
every port word is refused. -/
def Obligations.PortOffsetsChooseTheirRule : Prop :=
  ∀ (s : State) (off : BitVec 4) (v : Byte), s.params.PortsLegal →
    ∃ i j, decode s.params ((0 : BitVec 20) ++ off ++ v) = .ok i ∧
      decode s.params ((0x10000 : BitVec 20) ++ off ++ v) = .ok j ∧
      (off.toNat < 8 → off.toNat % 2 = 0 → i = .iowIndex off v ∧ j = .iorIndex off) ∧
      (off.toNat < 8 → off.toNat % 2 = 1 → i = .iowData off v ∧ j = .iorData off) ∧
      (i = .iowMode v ↔ off = s.params.offMode) ∧
      (i = .iowConfig v ↔ off = s.params.offConfig) ∧
      (j = .iorStatus ↔ off = s.params.offStatus) ∧
      (s.lifecycle = .live → 8 ≤ off.toNat → off ≠ s.params.offMode → off ≠ s.params.offConfig →
        exec i s = .next s) ∧
      (s.lifecycle = .live → 8 ≤ off.toNat → off ≠ s.params.offStatus →
        exec j s = .next { s with reply := some 0xFF }) ∧
      (s.lifecycle = .closed → exec i s = .refused .afterClose ∧ exec j s = .refused .afterClose)

/-! ### VRAM window -/

/-- Rule R213, for a write the host does not bypass: the byte is stored at its offset, every other offset reads as
before, and nothing but VRAM changes. -/
def Obligations.WindowWriteStoresOneByte : Prop :=
  ∀ (s : State) (a : Offset) (v : Byte), s.lifecycle = .live → Memory.wf s.vram = true → s.hostWriteBypass = false →
    ∃ t, exec (.memw a v) s = .next t ∧ t.memRead a = v ∧ (∀ b, b ≠ a → t.memRead b = s.memRead b) ∧
      Memory.wf t.vram = true ∧ { t with vram := s.vram } = s

/-- Rule R214: a write the host's bypass verdict hits is discarded whole. -/
def Obligations.BypassedWindowWriteIsDiscarded : Prop :=
  ∀ (s : State) (a : Offset) (v : Byte), s.lifecycle = .live → s.hostWriteBypass = true →
    exec (.memw a v) s = .next s

/-- Rule R215: a window read returns the byte at its offset and changes nothing else. -/
def Obligations.WindowReadReturnsTheByte : Prop :=
  ∀ (s : State) (a : Offset) (d : Byte), s.lifecycle = .live →
    decode s.params ((0x30 : BitVec 8) ++ a ++ d) = .ok (.memr a) ∧
    exec (.memr a) s = .next { s with reply := some (s.memRead a) }

/-- Rule R217, which the specification derives for the ticks between: a byte written and not bypassed is read back at
the same offset, with any number of ticks between. -/
def Obligations.WindowRoundTripThroughTicks : Prop :=
  ∀ (s : State) (a : Offset) (v d : Byte) (n : Nat) (rest : List Request), s.lifecycle = .live →
    Memory.wf s.vram = true →
    s.pending = { word := (0x20 : BitVec 8) ++ a ++ v } ::
      (List.replicate n tickRequest ++ { word := (0x30 : BitVec 8) ++ a ++ d } :: rest) →
    ∃ t : State, Host.Core.run Sys2Proof.core (n + 2) s = .next t ∧ t.reply = some v

/-- Rule R63: an address the bus routes here is in the claimed window, and its low 16 bits are its distance from the
base, when the base is a multiple of 64K (decision D3); the 32K window routes no offset of 0x8000 or more (R67). That
it holds before INIT and after CLOSE too is the model's choice (notes/assumptions/22.md). -/
def Obligations.RoutedAddressesAreWindowOffsets : Prop :=
  ∀ (s : State) (address : Nat), s.params.vramBase % 0x10000 = 0 →
    (∀ a, s.routeMemory address = some a →
      s.params.vramBase ≤ address ∧ a.toNat = address - s.params.vramBase ∧ a.toNat < s.claimedWindow.bytes) ∧
    ((∃ a, s.routeMemory address = some a) ↔
      s.params.vramBase ≤ address ∧ address < s.params.vramBase + s.claimedWindow.bytes)

/-- Rules R9 and R62: the port dispatch routes here exactly the 16 addresses from the base, each to its distance from
it. That it holds before INIT and after CLOSE too is the model's choice (notes/assumptions/22.md). -/
def Obligations.RoutedPortsAreBlockOffsets : Prop :=
  ∀ (s : State) (address : Nat),
    (∀ off, s.routePort address = some off → address = s.params.portBase + off.toNat) ∧
    ((∃ off, s.routePort address = some off) ↔
      s.params.portBase ≤ address ∧ address < s.params.portBase + 16)

/-! ### Who writes what -/

/-- Rules R26 to R33, R48 to R50 and R53: each field is changed only by the transactions the specification names as its
writers (INIT, which resets all, aside). -/
def Obligations.EachFieldChangesOnlyByItsWriters : Prop :=
  ∀ (i : Instr) (s t : State), i ≠ .init → exec i s = .next t →
    (t.crtc = s.crtc ∨ ∃ off v, i = .iowData off v) ∧
    (t.crtcIndex = s.crtcIndex ∨ ∃ off v, i = .iowIndex off v) ∧
    (t.mode = s.mode ∨ ∃ v, i = .iowMode v) ∧
    (t.modeExt = s.modeExt ∧ t.claimedWindow = s.claimedWindow ∨ ∃ v, i = .iowConfig v) ∧
    (t.status = s.status ∨ i = .tick) ∧
    (t.vram = s.vram ∨ ∃ a v, i = .memw a v) ∧
    (t.visiblePeriodTicks = s.visiblePeriodTicks ∧ t.blankPeriodTicks = s.blankPeriodTicks ∨ i = .speed ∨
      ∃ off v, i = .iowData off v) ∧
    (t.tickScale = s.tickScale ∨ i = .speed) ∧
    (t.lifecycle = s.lifecycle ∨ i = .close) ∧
    t.palette = s.palette ∧ t.palExtCursor = s.palExtCursor ∧ t.palExtEnable = s.palExtEnable

/-- Rules R27 and R35 to R47: every transaction but TICK and INIT leaves the scan position, the address cursors, the
cursor and blink state and the frame bookkeeping as they were. -/
def Obligations.OnlyTicksMoveTheScan : Prop :=
  ∀ (i : Instr) (s t : State), i ≠ .init → i ≠ .tick → exec i s = .next t →
    t.verticalCounter = s.verticalCounter ∧ t.scanlineCounter = s.scanlineCounter ∧ t.displayLine = s.displayLine ∧
    t.lineInFramePosition = s.lineInFramePosition ∧ t.verticalAdjustRemaining = s.verticalAdjustRemaining ∧
    t.verticalSyncRemaining = s.verticalSyncRemaining ∧ t.firstVisibleLine = s.firstVisibleLine ∧
    t.lastVisibleLine = s.lastVisibleLine ∧ t.displayActive = s.displayActive ∧ t.memoryAddress = s.memoryAddress ∧
    t.memoryAddressBackup = s.memoryAddressBackup ∧ t.cursorEnabledWindow = s.cursorEnabledWindow ∧
    t.cursorDisabledWindow = s.cursorDisabledWindow ∧ t.cursorVisible = s.cursorVisible ∧
    t.blinkCounter = s.blinkCounter ∧ t.frameCounter = s.frameCounter ∧ t.screenW = s.screenW ∧ t.screenH = s.screenH ∧
    t.accumulatedDeviceTime = s.accumulatedDeviceTime

/-- Rule R26: registers 23 to 31 are never written (INIT, which resets them, aside). -/
def Obligations.ReservedRegistersAreNeverWritten : Prop :=
  ∀ (i : Instr) (s t : State) (j : BitVec 5), i ≠ .init → 22 < j.toNat → exec i s = .next t → t.reg j = s.reg j

/-- Rules R52 and R127: events are only ever appended, and only TICK and the configuration write append any (INIT, which
starts the sequence, aside). -/
def Obligations.EventsAreOnlyAppended : Prop :=
  ∀ (i : Instr) (s t : State), i ≠ .init → exec i s = .next t →
    ∃ new, t.events = s.events ++ new ∧ (new = [] ∨ i = .tick ∨ ∃ v, i = .iowConfig v)

/-! ### The two halves of a scanline -/

/-- Rules R136 and R137: a tick opens with the event that schedules the period of its half, adds that period to the
device time, toggles the half, and leaves every field that no rule of the state machine writes. -/
def Obligations.TickSchedulesItsPeriodAndTogglesTheHalf : Prop :=
  ∀ (s : State) (x : BitVec 24), s.lifecycle = .live →
    decode s.params ((0x40 : BitVec 8) ++ x) = .ok .tick ∧
    ∃ t more, exec .tick s = .next t ∧
      (let p := if s.lineInFramePosition then s.visiblePeriodTicks else s.blankPeriodTicks
       t.events = s.events ++ [.schedule p] ++ more ∧ t.accumulatedDeviceTime = s.accumulatedDeviceTime + p) ∧
      t.lineInFramePosition = !s.lineInFramePosition ∧
      t.crtc = s.crtc ∧ t.crtcIndex = s.crtcIndex ∧ t.mode = s.mode ∧ t.modeExt = s.modeExt ∧ t.palette = s.palette ∧
      t.vram = s.vram ∧ t.claimedWindow = s.claimedWindow ∧ t.visiblePeriodTicks = s.visiblePeriodTicks ∧
      t.blankPeriodTicks = s.blankPeriodTicks ∧ t.tickScale = s.tickScale ∧ t.reply = s.reply ∧
      t.drawCount = s.drawCount ∧ t.palExtCursor = s.palExtCursor ∧ t.palExtEnable = s.palExtEnable ∧
      t.lifecycle = s.lifecycle ∧ t.params = s.params ∧ t.pending = s.pending ∧ t.hostTickScale = s.hostTickScale ∧
      t.hostWriteBypass = s.hostWriteBypass

/-- Rules R138, R139, R143 and R144 with `displayActive` false: the whole next state. VSYNC is set at scanline 0 of the
vertical-sync row, whose compare takes all 8 bits of the register (decision D13). -/
def Obligations.BlankHalfOutsideTheDisplay : Prop :=
  ∀ s : State, s.lifecycle = .live → s.lineInFramePosition = false → s.displayActive = false →
    exec .tick s = .next
      { s with events := s.events ++ [.schedule s.blankPeriodTicks]
               accumulatedDeviceTime := s.accumulatedDeviceTime + s.blankPeriodTicks
               lineInFramePosition := true
               status := s.status ||| 0x01 |||
                 (if s.verticalCounter.toNat = (s.reg 7).toNat ∧ s.scanlineCounter = 0 then 0x08 else 0x00)
               displayLine := (s.displayLine + 1) % 500 }

/-- Rules R138 to R144 with `displayActive` true: the whole next state. The line is rendered from the state before the
tick, at the render row of rule R140, by the strategy of rules R142, R94 and R105; the address moves on by `crtc[1]`
cells (rule R74). The doubling, the mode bits and the register numbers are decisions D4, D5, D7, D12 and D14. -/
def Obligations.BlankHalfRendersAndEmitsItsLine : Prop :=
  ∀ s : State, s.lifecycle = .live → s.lineInFramePosition = false → s.displayActive = true →
    let row : Row := if s.reg 8 &&& 3 = 3 then (s.scanlineCounter <<< 1) &&& s.params.doubleMask else s.scanlineCounter
    let pixels : List Ink :=
      if s.mode.getLsbD 1 ∧ s.modeExt.getLsbD 0 then (s.renderGraphics row).1
      else if (s.reg 20).getLsbD 0 = false then (s.renderTextRom row).1
      else if (s.reg 20).getLsbD 2 = false then (s.renderText4K row).1
      else (s.renderText48K row).1
    exec .tick s = .next
      { s with events := s.events ++ [.schedule s.blankPeriodTicks] ++
                 (if (s.displayLine : Int) < s.firstVisibleLine then [.waitForBuffer] else []) ++
                 [.line s.displayLine pixels]
               accumulatedDeviceTime := s.accumulatedDeviceTime + s.blankPeriodTicks
               lineInFramePosition := true
               status := s.status ||| 0x01 |||
                 (if s.verticalCounter.toNat = (s.reg 7).toNat ∧ s.scanlineCounter = 0 then 0x08 else 0x00)
               firstVisibleLine := if (s.displayLine : Int) < s.firstVisibleLine then s.displayLine else s.firstVisibleLine
               lastVisibleLine := s.displayLine
               memoryAddress := s.memoryAddress + BitVec.ofNat 14 (s.reg 1).toNat
               displayLine := (s.displayLine + 1) % 500 }

/-- Rules R52, R61 and R142: a visible blank half writes exactly the output line of its event; every other output line
stays. The view of the lines is the model's (decision D28). -/
def Obligations.VisibleBlankHalfWritesOneOutputLine : Prop :=
  ∀ s : State, s.lifecycle = .live → s.lineInFramePosition = false → s.displayActive = true →
    ∃ t pixels, exec .tick s = .next t ∧ t.events.getLast? = some (.line s.displayLine pixels) ∧
      ∀ n, t.outputLine n = if n = s.displayLine then some pixels else s.outputLine n

/-- Rules R146, R147 and R154: an active half clears INPROG exactly when `displayActive` held before it, and clears
VSYNC exactly when the countdown goes from 1 to 0; the countdown goes down by 1 unless it is 0, and is armed to 16 where
the half ends a row and reaches the vertical-sync row. The bits' positions and the doubled compare are decisions D6, D12
and D31. -/
def Obligations.ActiveHalfUpdatesTheStatusFlags : Prop :=
  ∀ s : State, s.lifecycle = .live → s.lineInFramePosition = true →
    let rowEnds : Prop := s.verticalAdjustRemaining = 0 ∧
      (s.scanlineCounter.toNat = (s.reg 9).toNat ∨
        (s.reg 8 &&& 3 = 3 ∧ s.scanlineCounter.toNat = (s.reg 9).toNat / 2))
    let nextRow : Nat :=
      if s.verticalCounter.toNat = (s.reg 4).toNat then 0 else (s.verticalCounter.toNat + 1) % 128
    ∃ t, exec .tick s = .next t ∧
      t.status = s.status &&& (if s.displayActive then 0xFE else 0xFF) &&&
        (if s.verticalSyncRemaining = 1 then 0xF7 else 0xFF) ∧
      t.verticalSyncRemaining.toNat =
        if rowEnds ∧ nextRow = (s.reg 7).toNat then 16 else s.verticalSyncRemaining.toNat - 1

/-- Rules R148 and R160: the cursor window closes on the scanline just rendered and opens on the one to render next, in
doubled mode at half the row too (decision D12), and opening wins. -/
def Obligations.ActiveHalfMovesTheCursorWindow : Prop :=
  ∀ s : State, s.lifecycle = .live → s.lineInFramePosition = true →
    ∃ t, exec .tick s = .next t ∧
      (let doubled : Prop := s.reg 8 &&& 3 = 3
       let at' : BitVec 5 → Byte → Prop := fun sc r =>
         sc.toNat = (r &&& 0x1F).toNat ∨ (doubled ∧ sc.toNat = (r &&& 0x1F).toNat / 2)
       (t.cursorEnabledWindow = true ↔
         at' t.scanlineCounter (s.reg 10) ∨
           (s.cursorEnabledWindow = true ∧ ¬ at' s.scanlineCounter (s.reg 11))) ∧
       (t.cursorDisabledWindow = true ↔ s.cursorDisabledWindow = true ∨ at' s.scanlineCounter (s.reg 11)))

/-- Rule R159 (with decisions D12 and D13 in the row-end test): where no adjust is pending and no row ends, the scanline
counter goes up by 1 mod 32 and the address goes back to the row's start. The equation names the fields of the status
and cursor rules, and nothing else changes. -/
def Obligations.NextScanlineReloadsTheRowStart : Prop :=
  ∀ s : State, s.lifecycle = .live → s.lineInFramePosition = true → s.verticalAdjustRemaining = 0 →
    s.scanlineCounter.toNat ≠ (s.reg 9).toNat →
    ¬(s.reg 8 &&& 3 = 3 ∧ s.scanlineCounter.toNat = (s.reg 9).toNat / 2) →
    ∃ t, exec .tick s = .next t ∧ t.scanlineCounter.toNat = (s.scanlineCounter.toNat + 1) % 32 ∧
      { t with status := s.status, verticalSyncRemaining := s.verticalSyncRemaining,
               cursorEnabledWindow := s.cursorEnabledWindow, cursorDisabledWindow := s.cursorDisabledWindow,
               scanlineCounter := s.scanlineCounter } =
      { s with events := s.events ++ [.schedule s.visiblePeriodTicks]
               accumulatedDeviceTime := s.accumulatedDeviceTime + s.visiblePeriodTicks
               lineInFramePosition := false
               memoryAddress := s.memoryAddressBackup }

/-- Rule R149: a vertical-adjust scanline counts down, whatever the row-end test says; the last one turns the display
on, loads both address cursors from registers 12 and 13 and restarts the scanline counter. The register numbers are
decision D7. -/
def Obligations.AdjustScanlineCountsDown : Prop :=
  ∀ s : State, s.lifecycle = .live → s.lineInFramePosition = true → s.verticalAdjustRemaining ≠ 0 →
    let start : CellAddr := BitVec.ofNat 14 ((s.reg 12).toNat * 256 + (s.reg 13).toNat)
    ∃ t, exec .tick s = .next t ∧
      { t with status := s.status, verticalSyncRemaining := s.verticalSyncRemaining,
               cursorEnabledWindow := s.cursorEnabledWindow, cursorDisabledWindow := s.cursorDisabledWindow } =
      { s with events := s.events ++ [.schedule s.visiblePeriodTicks]
               accumulatedDeviceTime := s.accumulatedDeviceTime + s.visiblePeriodTicks
               lineInFramePosition := false
               verticalAdjustRemaining := s.verticalAdjustRemaining - 1
               scanlineCounter := if s.verticalAdjustRemaining = 1 then 0 else s.scanlineCounter + 1
               displayActive := if s.verticalAdjustRemaining = 1 then true else s.displayActive
               memoryAddress := if s.verticalAdjustRemaining = 1 then start else s.memoryAddressBackup
               memoryAddressBackup := if s.verticalAdjustRemaining = 1 then start else s.memoryAddressBackup }

/-- Rules R150 and R151: where a row ends that is neither the frame's last nor followed by the vertical-sync row, the
row counter goes up by 1 mod 128, the address is saved as the next row's start, and the display goes off at register 6
(decisions D7, D12 and D13). -/
def Obligations.EndOfRowStartsTheNextRow : Prop :=
  ∀ s : State, s.lifecycle = .live → s.lineInFramePosition = true → s.verticalAdjustRemaining = 0 →
    (s.scanlineCounter.toNat = (s.reg 9).toNat ∨ (s.reg 8 &&& 3 = 3 ∧ s.scanlineCounter.toNat = (s.reg 9).toNat / 2)) →
    s.verticalCounter.toNat ≠ (s.reg 4).toNat → (s.verticalCounter.toNat + 1) % 128 ≠ (s.reg 7).toNat →
    ∃ t, exec .tick s = .next t ∧ t.verticalCounter.toNat = (s.verticalCounter.toNat + 1) % 128 ∧
      { t with status := s.status, verticalSyncRemaining := s.verticalSyncRemaining,
               cursorEnabledWindow := s.cursorEnabledWindow, cursorDisabledWindow := s.cursorDisabledWindow,
               verticalCounter := s.verticalCounter } =
      { s with events := s.events ++ [.schedule s.visiblePeriodTicks]
               accumulatedDeviceTime := s.accumulatedDeviceTime + s.visiblePeriodTicks
               lineInFramePosition := false
               memoryAddressBackup := s.memoryAddress
               scanlineCounter := 0
               displayActive := if (s.verticalCounter.toNat + 1) % 128 = (s.reg 6).toNat then false else s.displayActive }

/-- Rules R150 to R153: where the frame's last row ends, with the vertical-sync row elsewhere than row 0, the row
counter restarts and the adjust is loaded; with no adjust the display goes on at once from the start address; the cursor
gate is recomputed from bits 6:5 of register 10 and the blink counter (decisions D7, D12, D13 and D25). -/
def Obligations.FrameWrapRestartsTheRows : Prop :=
  ∀ s : State, s.lifecycle = .live → s.lineInFramePosition = true → s.verticalAdjustRemaining = 0 →
    (s.scanlineCounter.toNat = (s.reg 9).toNat ∨ (s.reg 8 &&& 3 = 3 ∧ s.scanlineCounter.toNat = (s.reg 9).toNat / 2)) →
    s.verticalCounter.toNat = (s.reg 4).toNat → s.reg 7 ≠ 0 →
    let start : CellAddr := BitVec.ofNat 14 ((s.reg 12).toNat * 256 + (s.reg 13).toNat)
    ∃ t, exec .tick s = .next t ∧
      { t with status := s.status, verticalSyncRemaining := s.verticalSyncRemaining,
               cursorEnabledWindow := s.cursorEnabledWindow, cursorDisabledWindow := s.cursorDisabledWindow } =
      { s with events := s.events ++ [.schedule s.visiblePeriodTicks]
               accumulatedDeviceTime := s.accumulatedDeviceTime + s.visiblePeriodTicks
               lineInFramePosition := false
               scanlineCounter := 0
               verticalCounter := 0
               verticalAdjustRemaining := s.reg 5
               displayActive := if s.reg 5 = 0 then true
                 else if (s.verticalCounter.toNat + 1) % 128 = (s.reg 6).toNat then false else s.displayActive
               memoryAddress := if s.reg 5 = 0 then start else s.memoryAddress
               memoryAddressBackup := if s.reg 5 = 0 then start else s.memoryAddress
               cursorVisible := if s.reg 10 &&& 0x60 = 0x20 then false
                 else if s.reg 10 &&& 0x60 = 0x60 then s.blinkCounter.getLsbD 4
                 else s.blinkCounter.getLsbD 3 }

/-- Rules R154 to R158: where a row ends before a vertical-sync row other than 0, the frame ends. The display goes off,
the output line restarts, the countdown is armed to 16; a changed size is requested, too small a one replaced; the frame
is presented; both frame counters go up by 1; the visible-line bookkeeping restarts (decisions D7, D12, D13, D26, D33
and D39). The parameters' defaults are the model's log entry notes/assumptions/1.md. -/
def Obligations.VsyncRowEndsTheFrame : Prop :=
  ∀ s : State, s.lifecycle = .live → s.lineInFramePosition = true → s.verticalAdjustRemaining = 0 →
    (s.scanlineCounter.toNat = (s.reg 9).toNat ∨ (s.reg 8 &&& 3 = 3 ∧ s.scanlineCounter.toNat = (s.reg 9).toNat / 2)) →
    s.verticalCounter.toNat ≠ (s.reg 4).toNat → (s.verticalCounter.toNat + 1) % 128 = (s.reg 7).toNat → s.reg 7 ≠ 0 →
    let w : Int := (if s.mode.getLsbD 1 ∧ s.modeExt.getLsbD 0 then 16 else 9) * ((s.reg 1).toNat : Int)
    let h : Int := s.lastVisibleLine - s.firstVisibleLine + 1
    let resized : Prop := w ≠ s.screenW ∨ h ≠ s.screenH
    let newW : Int := if w < s.params.minWidth then s.params.defWidth else w
    let newH : Int := if h < s.params.minHeight then s.params.defHeight else h
    ∃ t, exec .tick s = .next t ∧ t.verticalCounter.toNat = (s.verticalCounter.toNat + 1) % 128 ∧
      t.verticalSyncRemaining = 16 ∧
      (resized → t.screenW = newW ∧ t.screenH = newH ∧
        t.events = s.events ++ [.schedule s.visiblePeriodTicks, .resize newW newH, .blit s.firstVisibleLine h newW h]) ∧
      (¬resized → t.screenW = s.screenW ∧ t.screenH = s.screenH ∧
        t.events = s.events ++ [.schedule s.visiblePeriodTicks, .blit s.firstVisibleLine h s.screenW h]) ∧
      { t with status := s.status, verticalSyncRemaining := s.verticalSyncRemaining,
               cursorEnabledWindow := s.cursorEnabledWindow, cursorDisabledWindow := s.cursorDisabledWindow,
               verticalCounter := s.verticalCounter, screenW := s.screenW, screenH := s.screenH, events := s.events } =
      { s with accumulatedDeviceTime := s.accumulatedDeviceTime + s.visiblePeriodTicks
               lineInFramePosition := false
               memoryAddressBackup := s.memoryAddress
               scanlineCounter := 0
               displayActive := false
               displayLine := 0
               frameCounter := s.frameCounter + 1
               blinkCounter := s.blinkCounter + 1
               firstVisibleLine := s.params.firstReset
               lastVisibleLine := 0 }

/-- Rules R154 and R155 with register 7 at 0 (decision D39): a row that ends before row 0, by the frame wrap or by the
row counter's own wrap, turns the display off, restarts the output line and arms the countdown, and no frame ends. The
frame wrap has its effects of rules R152 and R153 first (decisions D7, D12, D13 and D25). -/
def Obligations.VsyncRowZeroEndsNoFrame : Prop :=
  ∀ s : State, s.lifecycle = .live → s.lineInFramePosition = true → s.verticalAdjustRemaining = 0 →
    (s.scanlineCounter.toNat = (s.reg 9).toNat ∨ (s.reg 8 &&& 3 = 3 ∧ s.scanlineCounter.toNat = (s.reg 9).toNat / 2)) →
    (s.verticalCounter.toNat = (s.reg 4).toNat ∨ s.verticalCounter.toNat = 127) → s.reg 7 = 0 →
    let wraps : Prop := s.verticalCounter.toNat = (s.reg 4).toNat
    let start : CellAddr := BitVec.ofNat 14 ((s.reg 12).toNat * 256 + (s.reg 13).toNat)
    ∃ t, exec .tick s = .next t ∧ t.verticalSyncRemaining = 16 ∧
      { t with status := s.status, verticalSyncRemaining := s.verticalSyncRemaining,
               cursorEnabledWindow := s.cursorEnabledWindow, cursorDisabledWindow := s.cursorDisabledWindow } =
      { s with events := s.events ++ [.schedule s.visiblePeriodTicks]
               accumulatedDeviceTime := s.accumulatedDeviceTime + s.visiblePeriodTicks
               lineInFramePosition := false
               scanlineCounter := 0
               verticalCounter := 0
               verticalAdjustRemaining := if wraps then s.reg 5 else 0
               displayActive := false
               displayLine := 0
               memoryAddress := if wraps ∧ s.reg 5 = 0 then start else s.memoryAddress
               memoryAddressBackup := if wraps ∧ s.reg 5 = 0 then start else s.memoryAddress
               cursorVisible := if ¬wraps then s.cursorVisible
                 else if s.reg 10 &&& 0x60 = 0x20 then false
                 else if s.reg 10 &&& 0x60 = 0x60 then s.blinkCounter.getLsbD 4
                 else s.blinkCounter.getLsbD 3 }

/-! ### Whole-machine rules -/

/-- Rule R164, which the specification derives: in one tick each counter stays, goes up by 1 mod its range, or restarts
at 0, and the output line stays in 0..499. -/
def Obligations.CountersWrapAndNeverClamp : Prop :=
  ∀ s t : State, exec .tick s = .next t →
    (t.scanlineCounter.toNat = s.scanlineCounter.toNat ∨
      t.scanlineCounter.toNat = (s.scanlineCounter.toNat + 1) % 32 ∨ t.scanlineCounter.toNat = 0) ∧
    (t.verticalCounter.toNat = s.verticalCounter.toNat ∨
      t.verticalCounter.toNat = (s.verticalCounter.toNat + 1) % 128 ∨ t.verticalCounter.toNat = 0) ∧
    (t.displayLine = s.displayLine ∨ t.displayLine = (s.displayLine + 1) % 500 ∨ t.displayLine = 0) ∧
    (s.displayLine < 500 → t.displayLine < 500)

/-- The state after reset is sound, and the default parameters are legal. The reset values are rule R55's; the
palette's contents (notes/assumptions/5.md) and the scale 1 (notes/assumptions/7.md) are the model's. The default
parameters are rule R8's, PRESUMED (notes/assumptions/1.md, and notes/assumptions/2.md for the three port offsets).
What is legal: the alignment of the base is rule R63's (decision D3) and the bound on P_FIRST_RESET rule R141's; the
legal port offsets are DEDUCED from rules R87, R88 and R116 (notes/assumptions/2.md). -/
def Obligations.ResetStateIsSound : Prop := State.reset.Sound ∧ State.reset.params.Legal

/-- From every sound state, reached or not, a step leads to a sound state (`State.Sound` in Sys2Proof/Safety.lean). -/
def Obligations.EveryStepKeepsTheStateSound : Prop :=
  ∀ s t : State, s.Sound → step s = .next t → t.Sound

/-- Rules R54 and R74: what VRAM holds decides only the pixels of the lines. Two ticks from states that differ in VRAM
alone agree on every other field, and the events they append agree one by one, but for the pixel list of a Line event,
which has the same line number and the same length. -/
def Obligations.DisplayMemoryDecidesOnlyPixels : Prop :=
  ∀ (s : State) (m : Memory), s.lifecycle = .live →
    ∃ (t u : State) (new new' : List Event), exec .tick s = .next t ∧ exec .tick { s with vram := m } = .next u ∧
      t.events = s.events ++ new ∧ u.events = s.events ++ new' ∧
      List.Forall₂ (fun e e' => e' = e ∨
        ∃ n px px', e = .line n px ∧ e' = .line n px' ∧ px'.length = px.length) new new' ∧
      { u with vram := s.vram, events := t.events } = t

/-- Rule R243, which the specification derives: from the reset state, with no register written, the first tick leaves
status 0x09, output line 1 and an active half to come. From the second tick on the ticks alternate, but for the device
time and the events, between two states: after an even number the output line is 0 and a blank half comes, after an
odd number the output line is 1 and an active half comes. The only events are those that schedule the two periods, in
turn. The reset state's scale is 1 (notes/assumptions/7.md). -/
def Obligations.ResetRegistersTickInPlace : Prop :=
  let ticks : Nat → State := fun k => { State.reset with pending := List.replicate k tickRequest }
  let scheduled : Nat → List Event := fun n => (List.replicate n [Event.schedule 1, Event.schedule 0]).flatten
  (∃ t : State, Host.Core.run Sys2Proof.core 1 (ticks 1) = .next t ∧
    t = { State.reset with
            status := 0x09, displayLine := 1, lineInFramePosition := true
            accumulatedDeviceTime := 1
            events := State.reset.events ++ [.schedule 1] }) ∧
  ∀ n : Nat, 0 < n →
    (∃ t : State, Host.Core.run Sys2Proof.core (2 * n) (ticks (2 * n)) = .next t ∧
      t = { State.reset with
              status := 0x09, verticalSyncRemaining := 16, cursorEnabledWindow := true, cursorDisabledWindow := true
              accumulatedDeviceTime := n
              events := State.reset.events ++ scheduled n }) ∧
    (∃ t : State, Host.Core.run Sys2Proof.core (2 * n + 1) (ticks (2 * n + 1)) = .next t ∧
      t = { State.reset with
              status := 0x09, verticalSyncRemaining := 16, cursorEnabledWindow := true, cursorDisabledWindow := true
              displayLine := 1, lineInFramePosition := true
              accumulatedDeviceTime := n + 1
              events := State.reset.events ++ scheduled n ++ [.schedule 1] })

/-- Rule R165, with the display ending at or before the vertical-sync row (notes/assumptions/14.md: DEDUCED, the rule's
count of visible lines needs it). From one frame end to the next there are `(crtc[4] + 1) * (crtc[9] + 1) + crtc[5]`
scanlines of two ticks, `crtc[6] * (crtc[9] + 1)` of them emit a line, the first at the number the rule gives, and the
one frame end is the last of these ticks. -/
def Obligations.FramesRepeatWithTheirShape : Prop :=
  ∀ (s : State) (rest : List Request),
    let scanlines := ((s.reg 4).toNat + 1) * ((s.reg 9).toNat + 1) + (s.reg 5).toNat
    let firstLine := ((s.reg 4).toNat - (s.reg 7).toNat + 1) * ((s.reg 9).toNat + 1) + (s.reg 5).toNat
    let isLine : Event → Bool := fun e => match e with | .line _ _ => true | _ => false
    let isBlit : Event → Bool := fun e => match e with | .blit _ _ _ _ => true | _ => false
    s.lifecycle = .live → s.lineInFramePosition = false → s.verticalAdjustRemaining = 0 → s.scanlineCounter = 0 →
    s.displayActive = false → s.displayLine = 0 → s.verticalCounter.toNat = (s.reg 7).toNat →
    s.reg 8 &&& 3 ≠ 3 → (s.reg 9).toNat ≤ 31 → 1 ≤ (s.reg 6).toNat → (s.reg 6).toNat ≤ (s.reg 7).toNat →
    (s.reg 7).toNat ≤ (s.reg 4).toNat → (s.reg 4).toNat ≤ 127 →
    s.pending = List.replicate (2 * scanlines) tickRequest ++ rest →
    ∃ (t : State) (new : List Event),
      Host.Core.run Sys2Proof.core (2 * scanlines) s = .next t ∧
      t.lineInFramePosition = false ∧ t.verticalAdjustRemaining = 0 ∧ t.scanlineCounter = 0 ∧
      t.displayActive = false ∧ t.displayLine = 0 ∧ t.verticalCounter.toNat = (s.reg 7).toNat ∧
      t.frameCounter = s.frameCounter + 1 ∧ t.blinkCounter = s.blinkCounter + 1 ∧
      t.events = s.events ++ new ∧ new.countP isBlit = 1 ∧ (new.getLast?.map isBlit) = some true ∧
      new.countP isLine = (s.reg 6).toNat * ((s.reg 9).toNat + 1) ∧
      (firstLine < 500 → ∃ px, new.find? isLine = some (.line firstLine px))

/-! ### Rendering -/

/-- Rules R198 and R210: a text line has `crtc[1]` cells of 8 pixels in 90-column mode and 9 otherwise, a graphics line
`crtc[1]` cells of 16, and each strategy moves the address on by `crtc[1]`. -/
def Obligations.LinesHaveTheirLengths : Prop :=
  ∀ (s : State) (row : Row),
    let columns := (s.reg 1).toNat
    let width := if (s.reg 20).getLsbD 1 then 8 else 9
    let after := s.memoryAddress + BitVec.ofNat 14 columns
    ((s.renderTextRom row).1.length = columns * width ∧ (s.renderTextRom row).2 = after) ∧
    ((s.renderText4K row).1.length = columns * width ∧ (s.renderText4K row).2 = after) ∧
    ((s.renderText48K row).1.length = columns * width ∧ (s.renderText48K row).2 = after) ∧
    ((s.renderGraphics row).1.length = columns * 16 ∧ (s.renderGraphics row).2 = after)

/-- Rules R171 to R176 (decisions D20, D21 and D43): the arbiter's source for a glyph row, and its VRAM address as a sum
mod 65536, with font numbers 12..15 folded to 4..7. -/
def Obligations.GlyphRowsComeFromTheirSource : Prop :=
  ∀ (s : State) (chr attr : Byte) (row : Row),
    let base := s.params.ramFontBase.toNat + 16 * chr.toNat + row.toNat
    let f := attr.toNat % 16
    ((s.reg 20).getLsbD 0 = false → s.glyphRow chr attr row = Config.fontRom chr row) ∧
    ((s.reg 20).getLsbD 0 = true → (s.reg 20).getLsbD 2 = false →
      s.glyphRow chr attr row = Memory.read s.vram (base % 65536)) ∧
    ((s.reg 20).getLsbD 0 = true → (s.reg 20).getLsbD 2 = true →
      s.glyphRow chr attr row =
        Memory.read s.vram ((base + 4096 * (if 12 ≤ f then f - 8 else f)) % 65536))

/-- Rules R181 to R190 and R197: pixel `i` of cell `k` of a ROM-font or 4K-font line, from the cell's two VRAM bytes.
The cursor covers the cell in its foreground; blink wins over underline, underline over the glyph; the ninth column
repeats the eighth in the duplication range. The inks and positions are the specification's general knowledge and
decisions D16 to D18, D22 and D24. -/
def Obligations.MdaTextPixels : Prop :=
  ∀ (s : State) (row : Row) (k i : Nat),
    let width := if (s.reg 20).getLsbD 1 then 8 else 9
    let ma : CellAddr := s.memoryAddress + BitVec.ofNat 14 k
    let video := s.mode.getLsbD 3
    let chr : Byte := if video then Memory.read s.vram ((2 * ma.toNat) % 16384) else 0
    let attr : Byte := if video then Memory.read s.vram ((2 * ma.toNat + 1) % 16384) else 0
    let blinks := s.mode.getLsbD 5 && attr.getLsbD 7 && s.blinkCounter.getLsbD 4
    let a : Byte := if s.mode.getLsbD 5 then attr &&& 0x7F else attr
    let inverse : Bool := a &&& 0x77 = 0x70
    let bg : Ink := (if inverse then 7 else 0) + (if a.getLsbD 7 then 8 else 0)
    let fg : Ink := if a &&& 0x77 = 0 then bg else (if inverse then 0 else 7) + (if a.getLsbD 3 then 8 else 0)
    let cursor : Prop := ma.toNat = ((s.reg 14).toNat * 256 + (s.reg 15).toNat) % 16384 ∧
      s.cursorEnabledWindow = true ∧ s.cursorVisible = true
    let underlined : Prop := a &&& 0x07 = 1 ∧ row.toNat = s.params.underlineRow
    let repeats : Prop := s.params.elgLo.toNat ≤ chr.toNat ∧ chr.toNat ≤ s.params.elgHi.toNat
    let pixel : Byte → Ink := fun glyph =>
      if cursor then fg
      else if blinks then bg
      else if underlined then fg
      else if i < 8 then (if glyph.getLsbD (7 - i) then fg else bg)
      else if repeats ∧ glyph.getLsbD 0 then fg else bg
    k < (s.reg 1).toNat → i < width →
      (s.renderTextRom row).1[k * width + i]? = some (pixel (Config.fontRom chr row)) ∧
      (s.renderText4K row).1[k * width + i]? =
        some (pixel (Memory.read s.vram ((s.params.ramFontBase.toNat + 16 * chr.toNat + row.toNat) % 65536)))

/-- Rules R181, R182 and R192 to R197: pixel `i` of cell `k` of a 48K-font line. Blink wins over the overline, the
overline over the underline, both over the glyph; a line's ink is its register's xor the background; bold lights the
pixel after a lit one. The attribute layout is the specification's decision D21. -/
def Obligations.ExtendedTextPixels : Prop :=
  ∀ (s : State) (row : Row) (k i : Nat),
    let width := if (s.reg 20).getLsbD 1 then 8 else 9
    let ma : CellAddr := s.memoryAddress + BitVec.ofNat 14 k
    let video := s.mode.getLsbD 3
    let chr : Byte := if video then Memory.read s.vram ((2 * ma.toNat) % 16384) else 0
    let attr : Byte := if video then Memory.read s.vram ((2 * ma.toNat + 1) % 16384) else 0
    let f := attr.toNat % 16
    let glyph : Byte := Memory.read s.vram
      ((s.params.ramFontBase.toNat + 16 * chr.toNat + row.toNat + 4096 * (if 12 ≤ f then f - 8 else f)) % 65536)
    let blinks := s.mode.getLsbD 5 && attr.getLsbD 7 && s.blinkCounter.getLsbD 4
    let bold : Prop := s.mode.getLsbD 5 = false ∧ attr.getLsbD 7 = true
    let fg : Ink := if attr.getLsbD 6 then 0 else 7
    let bg : Ink := if attr.getLsbD 6 then 7 else 0
    let cursor : Prop := ma.toNat = ((s.reg 14).toNat * 256 + (s.reg 15).toNat) % 16384 ∧
      s.cursorEnabledWindow = true ∧ s.cursorVisible = true
    let repeats : Prop := s.params.elgLo.toNat ≤ chr.toNat ∧ chr.toNat ≤ s.params.elgHi.toNat
    k < (s.reg 1).toNat → i < width →
      (s.renderText48K row).1[k * width + i]? = some
        (if cursor then fg
         else if blinks then bg
         else if attr.getLsbD 5 ∧ row.toNat = (s.reg 22).toNat % 16 then BitVec.ofNat 4 ((s.reg 22).toNat / 16) ^^^ bg
         else if attr.getLsbD 4 ∧ row.toNat = (s.reg 21).toNat % 16 then BitVec.ofNat 4 ((s.reg 21).toNat / 16) ^^^ bg
         else if (i < 8 ∧ glyph.getLsbD (7 - i)) ∨ (i = 8 ∧ repeats ∧ glyph.getLsbD 0) ∨
             (bold ∧ 1 ≤ i ∧ glyph.getLsbD (8 - i)) then fg
         else bg)

/-- Rules R206 to R209 (decision D23): pixel `i` of cell `k` of a graphics line is one bit of the cell's two bytes, most
significant first, in the bank of the row's low 2 bits and the page; with the video disabled every pixel is clear. -/
def Obligations.GraphicsPixels : Prop :=
  ∀ (s : State) (row : Row) (k i : Nat),
    let ma : CellAddr := s.memoryAddress + BitVec.ofNat 14 k
    let page := if s.mode.getLsbD 7 ∧ s.modeExt.getLsbD 1 then 32768 else 0
    let off := (2 * ma.toNat) % 8192 + (row.toNat % 4) * 8192 + page
    let lit : Prop := s.mode.getLsbD 3 = true ∧
      (if i < 8 then (Memory.read s.vram off).getLsbD (7 - i) else (Memory.read s.vram (off + 1)).getLsbD (15 - i)) = true
    k < (s.reg 1).toNat → i < 16 →
      (s.renderGraphics row).1[k * 16 + i]? = some (if lit then s.params.inkOn else s.params.inkOff)

/-- Rule R182 (decision D15): with the video disabled, a ROM-font or 4K-font line is all ink 0, whatever VRAM, the fonts
and the cursor hold. -/
def Obligations.DisabledVideoDrawsBlankText : Prop :=
  ∀ (s : State) (row : Row), s.mode.getLsbD 3 = false →
    (∀ px ∈ (s.renderTextRom row).1, px = 0) ∧ (∀ px ∈ (s.renderText4K row).1, px = 0)
end

