-- ==== Sys2Proof/Laws/Decode.lean ====
section
/-! SUPPORT. The fields of an assembled transaction word, read back one by one. -/

namespace Sys2Proof

section
variable (k : BitVec 4) (a : Offset) (d : Byte)

/-- Bit `i` of a transaction word, by the field it falls in (rule R81). -/
theorem getLsbD_transactionWord (i : Nat) :
    (transactionWord k a d).getLsbD i =
      if i < 8 then d.getLsbD i
      else if i < 24 then a.getLsbD (i - 8)
      else if i < 28 then false
      else k.getLsbD (i - 28) := by
  simp only [transactionWord, BitVec.getLsbD_append]
  by_cases h1 : i < 8
  · simp [h1]
  · by_cases h2 : i < 24
    · have : i - 8 < 16 := by omega
      simp [h1, h2, this]
    · have h3 : ¬ i - 8 < 16 := by omega
      by_cases h4 : i < 28
      · have : i - 8 - 16 < 4 := by omega
        simp [h1, h2, h3, h4, this]
      · have h5 : ¬ i - 8 - 16 < 4 := by omega
        have h6 : i - 8 - 16 - 4 = i - 28 := by omega
        simp [h1, h2, h3, h4, h5, h6]

@[simp] theorem kindField_transactionWord : kindField (transactionWord k a d) = k := by
  ext i hi
  have h1 : ¬ 28 + i < 8 := by omega
  have h2 : ¬ 28 + i < 24 := by omega
  simp [kindField, getLsbD_transactionWord, h1, h2, BitVec.getLsbD_eq_getElem hi]

@[simp] theorem reservedField_transactionWord : reservedField (transactionWord k a d) = 0 := by
  ext i hi
  have h1 : ¬ 24 + i < 8 := by omega
  have h2 : 24 + i < 28 := by omega
  simp [reservedField, getLsbD_transactionWord, h1, h2]

@[simp] theorem addressField_transactionWord : addressField (transactionWord k a d) = a := by
  ext i hi
  have h2 : 8 + i < 24 := by omega
  simp [addressField, getLsbD_transactionWord, h2, BitVec.getLsbD_eq_getElem hi]

@[simp] theorem portHighField_transactionWord :
    portHighField (transactionWord k a d) = a.extractLsb' 4 12 := by
  ext i hi
  have h1 : ¬ 12 + i < 8 := by omega
  have h2 : 12 + i < 24 := by omega
  have h3 : 12 + i - 8 = 4 + i := by omega
  simp [portHighField, getLsbD_transactionWord, h1, h2, h3]

@[simp] theorem offsetField_transactionWord :
    offsetField (transactionWord k a d) = a.extractLsb' 0 4 := by
  ext i hi
  have h2 : 8 + i < 24 := by omega
  simp [offsetField, getLsbD_transactionWord, h2]

@[simp] theorem dataField_transactionWord : dataField (transactionWord k a d) = d := by
  ext i hi
  simp [dataField, getLsbD_transactionWord, hi]

end

/-- The address of a port word has no high bits. -/
@[simp] theorem portHigh_setWidth (off : BitVec 4) : (off.setWidth 16).extractLsb' 4 12 = 0#12 := by
  ext i hi
  simp

/-- The offset of a port word is its address's low bits. -/
@[simp] theorem offset_setWidth (off : BitVec 4) : (off.setWidth 16).extractLsb' 0 4 = off := by
  ext i hi
  simp [hi]
  intro _
  omega

/-- What a port-write word decodes to. -/
theorem decode_encodeIow (p : Params) (off : BitVec 4) (v : Byte) :
    decode p (encodeIow off v) = .ok (decodeIow p off v) := by
  simp [decode, encodeIow]

/-- What a port-read word decodes to. -/
theorem decode_encodeIor (p : Params) (off : BitVec 4) : decode p (encodeIor off) = .ok (decodeIor p off) := by
  simp [decode, encodeIor]

/-! ### The port map (rules R87 and R116) -/

/-- An offset of 8 or more is no index port and no data port (rule R88). -/
theorem not_low_port (off : BitVec 4) (h : 8 ≤ off.toNat) : isIndexPort off = false ∧ isDataPort off = false := by
  revert off
  decide

/-- A data port is no index port. -/
theorem not_index_of_data (off : BitVec 4) (h : isDataPort off = true) : isIndexPort off = false := by
  revert off
  decide

section
variable {p : Params} {off : BitVec 4} (v : Byte)

theorem decodeIow_index (h : isIndexPort off = true) : decodeIow p off v = .iowIndex off v := by
  simp [decodeIow, h]

theorem decodeIow_data (h : isDataPort off = true) : decodeIow p off v = .iowData off v := by
  simp [decodeIow, h, not_index_of_data off h]

theorem decodeIow_mode (h : 8 ≤ p.offMode.toNat) : decodeIow p p.offMode v = .iowMode v := by
  simp [decodeIow, not_low_port _ h]

theorem decodeIow_config (h : 8 ≤ p.offConfig.toNat) (hm : p.offConfig ≠ p.offMode) :
    decodeIow p p.offConfig v = .iowConfig v := by
  simp [decodeIow, not_low_port _ h, hm]

/-- Rule R87: an offset of 8 or more that no written register has is ignored on write. -/
theorem decodeIow_unassigned (h : 8 ≤ off.toNat) (hm : off ≠ p.offMode) (hc : off ≠ p.offConfig) :
    decodeIow p off v = unassignedWrite (p.writeRow off) v := by
  simp [decodeIow, not_low_port _ h, hm, hc]

theorem decodeIor_index (h : isIndexPort off = true) : decodeIor p off = .iorIndex off := by
  simp [decodeIor, h]

theorem decodeIor_data (h : isDataPort off = true) : decodeIor p off = .iorData off := by
  simp [decodeIor, h, not_index_of_data off h]

theorem decodeIor_status (h : 8 ≤ p.offStatus.toNat) : decodeIor p p.offStatus = .iorStatus := by
  simp [decodeIor, not_low_port _ h]

/-- Rule R87: an offset of 8 or more that is not the status register's reads as 0xFF. -/
theorem decodeIor_unassigned (h : 8 ≤ off.toNat) (hs : off ≠ p.offStatus) :
    decodeIor p off = unassignedRead (p.readRow off) := by
  simp [decodeIor, not_low_port _ h, hs]

end

/-! An unassigned offset and its row determine each other, under every legal choice of the parameters. -/

section
variable {p : Params}

/-- Each unassigned write offset has a row, and `writeOffset` gives the offset back. -/
theorem Params.writeRow_spec (hp : p.PortsLegal) (off : BitVec 4) (h : 8 ≤ off.toNat) (hm : off ≠ p.offMode)
    (hc : off ≠ p.offConfig) :
    9 ≤ (p.writeRow off).toNat ∧ (p.writeRow off).toNat ≤ 14 ∧ p.writeOffset (p.writeRow off) = off := by
  obtain ⟨h1, -, h2, h3⟩ := hp
  unfold Params.writeRow Params.writeOffset
  generalize p.offMode = m at *
  generalize p.offConfig = c at *
  revert h hm hc h1 h2 h3
  revert m c off
  decide

/-- Each unassigned write row has an offset, and `writeRow` gives the row back. -/
theorem Params.writeOffset_spec (hp : p.PortsLegal) (row : BitVec 4) (h9 : 9 ≤ row.toNat) (h14 : row.toNat ≤ 14) :
    8 ≤ (p.writeOffset row).toNat ∧ p.writeOffset row ≠ p.offMode ∧ p.writeOffset row ≠ p.offConfig ∧
      p.writeRow (p.writeOffset row) = row := by
  obtain ⟨h1, -, h2, h3⟩ := hp
  unfold Params.writeRow Params.writeOffset
  generalize p.offMode = m at *
  generalize p.offConfig = c at *
  revert h9 h14 h1 h2 h3
  revert m c row
  decide

/-- Each unassigned read offset has a row, and `readOffset` gives the offset back. -/
theorem Params.readRow_spec (hp : 8 ≤ p.offStatus.toNat) (off : BitVec 4) (h : 8 ≤ off.toNat)
    (hs : off ≠ p.offStatus) :
    8 ≤ (p.readRow off).toNat ∧ p.readRow off ≠ 0xA ∧ p.readOffset (p.readRow off) = off := by
  unfold Params.readRow Params.readOffset
  generalize p.offStatus = st at *
  revert h hs hp
  revert st off
  decide

/-- Each unassigned read row has an offset, and `readRow` gives the row back. -/
theorem Params.readOffset_spec (hp : 8 ≤ p.offStatus.toNat) (row : BitVec 4) (h : 8 ≤ row.toNat)
    (hA : row ≠ 0xA) :
    8 ≤ (p.readOffset row).toNat ∧ p.readOffset row ≠ p.offStatus ∧ p.readRow (p.readOffset row) = row := by
  unfold Params.readRow Params.readOffset
  generalize p.offStatus = st at *
  revert h hA hp
  revert st row
  decide

/-- What an unassigned write row's word decodes to. -/
theorem decode_encodeIow_unassigned (hp : p.PortsLegal) {row : BitVec 4} (v : Byte) (h9 : 9 ≤ row.toNat)
    (h14 : row.toNat ≤ 14) : decode p (encodeIow (p.writeOffset row) v) = .ok (unassignedWrite row v) := by
  obtain ⟨h, hm, hc, hr⟩ := Params.writeOffset_spec hp row h9 h14
  rw [decode_encodeIow, decodeIow_unassigned v h hm hc, hr]

/-- What an unassigned read row's word decodes to. -/
theorem decode_encodeIor_unassigned (hp : 8 ≤ p.offStatus.toNat) {row : BitVec 4} (h : 8 ≤ row.toNat)
    (hA : row ≠ 0xA) :
    decode p (encodeIor (p.readOffset row)) = .ok (unassignedRead row) := by
  obtain ⟨h, hs, hr⟩ := Params.readOffset_spec hp row h hA
  rw [decode_encodeIor, decodeIor_unassigned h hs, hr]

end

end Sys2Proof
end

