-- ==== Sys2Proof/Laws/Line.lean ====
section
/-! SUPPORT. What the loop over a line's cells does: its pixels, how many, and the address it ends at. -/

namespace Sys2Proof.Machine

theorem lineCells_length (f : CellAddr → List Ink) {w : Nat} (hf : ∀ ma, (f ma).length = w) (n : Nat) (ma : CellAddr) :
    (lineCells f n ma).1.length = n * w := by
  induction n generalizing ma with
  | zero => simp [lineCells]
  | succ n ih => simp [lineCells, ih, hf, Nat.succ_mul, Nat.add_comm]

/-- Every cell moves the address on by 1 mod 2^14. -/
theorem lineCells_address (f : CellAddr → List Ink) (n : Nat) (ma : CellAddr) :
    (lineCells f n ma).2 = ma + BitVec.ofNat 14 n := by
  induction n generalizing ma with
  | zero => simp [lineCells]
  | succ n ih =>
    simp only [lineCells, ih]
    apply BitVec.eq_of_toNat_eq
    simp
    omega

/-- Pixel `i` of cell `k` of a line is pixel `i` of the cell `k` cells after the first. -/
theorem lineCells_pixel (f : CellAddr → List Ink) {w : Nat} (hf : ∀ ma, (f ma).length = w) (n : Nat) (ma : CellAddr)
    {k i : Nat} (hk : k < n) (hi : i < w) :
    (lineCells f n ma).1[k * w + i]? = (f (ma + BitVec.ofNat 14 k))[i]? := by
  induction n generalizing ma k with
  | zero => omega
  | succ n ih =>
    simp only [lineCells]
    cases k with
    | zero => rw [List.getElem?_append_left (by rw [hf]; omega)]; simp
    | succ k =>
      have hw : (k + 1) * w + i - w = k * w + i := by rw [Nat.succ_mul]; omega
      rw [List.getElem?_append_right (by rw [hf, Nat.succ_mul]; omega), hf, hw, ih _ (by omega)]
      congr 2
      apply BitVec.eq_of_toNat_eq
      simp
      omega

/-- A pixel of a line is a pixel of one of its cells. -/
theorem mem_lineCells (f : CellAddr → List Ink) (n : Nat) (ma : CellAddr) {px : Ink} (h : px ∈ (lineCells f n ma).1) :
    ∃ a, px ∈ f a := by
  induction n generalizing ma with
  | zero => simp [lineCells] at h
  | succ n ih =>
    rcases List.mem_append.1 h with h | h
    · exact ⟨ma, h⟩
    · exact ih _ h

/-- Whatever the strategy, a line moves the address on by `crtc[1]` cells (rule R74). -/
theorem State.renderLine_address (s : State) (row : Row) :
    (s.renderLine row).2 = s.memoryAddress + BitVec.ofNat 14 (s.reg 1).toNat := by
  unfold State.renderLine
  split
  · exact lineCells_address _ _ _
  · split <;> exact lineCells_address _ _ _

end Sys2Proof.Machine
end

