-- ==== Sys2Proof/Laws/State.lean ====
section
/-! SUPPORT. What each update of the state does to each field: one lemma for each field and update, true by rfl, so that
no proof unfolds a record update. Every operation of the model is a composition of these updates. -/

namespace Sys2Proof.Machine

/-! ### setReg -/

section
variable (s : State) (i : BitVec 5) (v : Byte)

@[simp] theorem State.setReg_crtc : (s.setReg i v).crtc = s.crtc.set i.toNat v i.isLt := rfl
@[simp] theorem State.setReg_crtcIndex : (s.setReg i v).crtcIndex = s.crtcIndex := rfl
@[simp] theorem State.setReg_mode : (s.setReg i v).mode = s.mode := rfl
@[simp] theorem State.setReg_modeExt : (s.setReg i v).modeExt = s.modeExt := rfl
@[simp] theorem State.setReg_status : (s.setReg i v).status = s.status := rfl
@[simp] theorem State.setReg_palette : (s.setReg i v).palette = s.palette := rfl
@[simp] theorem State.setReg_palExtCursor : (s.setReg i v).palExtCursor = s.palExtCursor := rfl
@[simp] theorem State.setReg_palExtEnable : (s.setReg i v).palExtEnable = s.palExtEnable := rfl
@[simp] theorem State.setReg_verticalCounter : (s.setReg i v).verticalCounter = s.verticalCounter := rfl
@[simp] theorem State.setReg_scanlineCounter : (s.setReg i v).scanlineCounter = s.scanlineCounter := rfl
@[simp] theorem State.setReg_displayLine : (s.setReg i v).displayLine = s.displayLine := rfl
@[simp] theorem State.setReg_lineInFramePosition : (s.setReg i v).lineInFramePosition = s.lineInFramePosition := rfl
@[simp] theorem State.setReg_verticalAdjustRemaining : (s.setReg i v).verticalAdjustRemaining = s.verticalAdjustRemaining := rfl
@[simp] theorem State.setReg_verticalSyncRemaining : (s.setReg i v).verticalSyncRemaining = s.verticalSyncRemaining := rfl
@[simp] theorem State.setReg_firstVisibleLine : (s.setReg i v).firstVisibleLine = s.firstVisibleLine := rfl
@[simp] theorem State.setReg_lastVisibleLine : (s.setReg i v).lastVisibleLine = s.lastVisibleLine := rfl
@[simp] theorem State.setReg_displayActive : (s.setReg i v).displayActive = s.displayActive := rfl
@[simp] theorem State.setReg_memoryAddress : (s.setReg i v).memoryAddress = s.memoryAddress := rfl
@[simp] theorem State.setReg_memoryAddressBackup : (s.setReg i v).memoryAddressBackup = s.memoryAddressBackup := rfl
@[simp] theorem State.setReg_cursorEnabledWindow : (s.setReg i v).cursorEnabledWindow = s.cursorEnabledWindow := rfl
@[simp] theorem State.setReg_cursorDisabledWindow : (s.setReg i v).cursorDisabledWindow = s.cursorDisabledWindow := rfl
@[simp] theorem State.setReg_cursorVisible : (s.setReg i v).cursorVisible = s.cursorVisible := rfl
@[simp] theorem State.setReg_blinkCounter : (s.setReg i v).blinkCounter = s.blinkCounter := rfl
@[simp] theorem State.setReg_visiblePeriodTicks : (s.setReg i v).visiblePeriodTicks = s.visiblePeriodTicks := rfl
@[simp] theorem State.setReg_blankPeriodTicks : (s.setReg i v).blankPeriodTicks = s.blankPeriodTicks := rfl
@[simp] theorem State.setReg_tickScale : (s.setReg i v).tickScale = s.tickScale := rfl
@[simp] theorem State.setReg_accumulatedDeviceTime : (s.setReg i v).accumulatedDeviceTime = s.accumulatedDeviceTime := rfl
@[simp] theorem State.setReg_vram : (s.setReg i v).vram = s.vram := rfl
@[simp] theorem State.setReg_claimedWindow : (s.setReg i v).claimedWindow = s.claimedWindow := rfl
@[simp] theorem State.setReg_screenW : (s.setReg i v).screenW = s.screenW := rfl
@[simp] theorem State.setReg_screenH : (s.setReg i v).screenH = s.screenH := rfl
@[simp] theorem State.setReg_frameCounter : (s.setReg i v).frameCounter = s.frameCounter := rfl
@[simp] theorem State.setReg_events : (s.setReg i v).events = s.events := rfl
@[simp] theorem State.setReg_lifecycle : (s.setReg i v).lifecycle = s.lifecycle := rfl
@[simp] theorem State.setReg_params : (s.setReg i v).params = s.params := rfl
@[simp] theorem State.setReg_pending : (s.setReg i v).pending = s.pending := rfl
@[simp] theorem State.setReg_hostTickScale : (s.setReg i v).hostTickScale = s.hostTickScale := rfl
@[simp] theorem State.setReg_hostWriteBypass : (s.setReg i v).hostWriteBypass = s.hostWriteBypass := rfl
@[simp] theorem State.setReg_reply : (s.setReg i v).reply = s.reply := rfl
@[simp] theorem State.setReg_drawCount : (s.setReg i v).drawCount = s.drawCount := rfl
@[simp] theorem State.setReg_memRead (x : Offset) : (s.setReg i v).memRead x = s.memRead x := rfl

end

/-! ### memWrite -/

section
variable (s : State) (a : Offset) (v : Byte)

@[simp] theorem State.memWrite_crtc : (s.memWrite a v).crtc = s.crtc := rfl
@[simp] theorem State.memWrite_crtcIndex : (s.memWrite a v).crtcIndex = s.crtcIndex := rfl
@[simp] theorem State.memWrite_mode : (s.memWrite a v).mode = s.mode := rfl
@[simp] theorem State.memWrite_modeExt : (s.memWrite a v).modeExt = s.modeExt := rfl
@[simp] theorem State.memWrite_status : (s.memWrite a v).status = s.status := rfl
@[simp] theorem State.memWrite_palette : (s.memWrite a v).palette = s.palette := rfl
@[simp] theorem State.memWrite_palExtCursor : (s.memWrite a v).palExtCursor = s.palExtCursor := rfl
@[simp] theorem State.memWrite_palExtEnable : (s.memWrite a v).palExtEnable = s.palExtEnable := rfl
@[simp] theorem State.memWrite_verticalCounter : (s.memWrite a v).verticalCounter = s.verticalCounter := rfl
@[simp] theorem State.memWrite_scanlineCounter : (s.memWrite a v).scanlineCounter = s.scanlineCounter := rfl
@[simp] theorem State.memWrite_displayLine : (s.memWrite a v).displayLine = s.displayLine := rfl
@[simp] theorem State.memWrite_lineInFramePosition : (s.memWrite a v).lineInFramePosition = s.lineInFramePosition := rfl
@[simp] theorem State.memWrite_verticalAdjustRemaining : (s.memWrite a v).verticalAdjustRemaining = s.verticalAdjustRemaining := rfl
@[simp] theorem State.memWrite_verticalSyncRemaining : (s.memWrite a v).verticalSyncRemaining = s.verticalSyncRemaining := rfl
@[simp] theorem State.memWrite_firstVisibleLine : (s.memWrite a v).firstVisibleLine = s.firstVisibleLine := rfl
@[simp] theorem State.memWrite_lastVisibleLine : (s.memWrite a v).lastVisibleLine = s.lastVisibleLine := rfl
@[simp] theorem State.memWrite_displayActive : (s.memWrite a v).displayActive = s.displayActive := rfl
@[simp] theorem State.memWrite_memoryAddress : (s.memWrite a v).memoryAddress = s.memoryAddress := rfl
@[simp] theorem State.memWrite_memoryAddressBackup : (s.memWrite a v).memoryAddressBackup = s.memoryAddressBackup := rfl
@[simp] theorem State.memWrite_cursorEnabledWindow : (s.memWrite a v).cursorEnabledWindow = s.cursorEnabledWindow := rfl
@[simp] theorem State.memWrite_cursorDisabledWindow : (s.memWrite a v).cursorDisabledWindow = s.cursorDisabledWindow := rfl
@[simp] theorem State.memWrite_cursorVisible : (s.memWrite a v).cursorVisible = s.cursorVisible := rfl
@[simp] theorem State.memWrite_blinkCounter : (s.memWrite a v).blinkCounter = s.blinkCounter := rfl
@[simp] theorem State.memWrite_visiblePeriodTicks : (s.memWrite a v).visiblePeriodTicks = s.visiblePeriodTicks := rfl
@[simp] theorem State.memWrite_blankPeriodTicks : (s.memWrite a v).blankPeriodTicks = s.blankPeriodTicks := rfl
@[simp] theorem State.memWrite_tickScale : (s.memWrite a v).tickScale = s.tickScale := rfl
@[simp] theorem State.memWrite_accumulatedDeviceTime : (s.memWrite a v).accumulatedDeviceTime = s.accumulatedDeviceTime := rfl
@[simp] theorem State.memWrite_vram : (s.memWrite a v).vram = Memory.write s.vram a.toNat v := rfl
@[simp] theorem State.memWrite_claimedWindow : (s.memWrite a v).claimedWindow = s.claimedWindow := rfl
@[simp] theorem State.memWrite_screenW : (s.memWrite a v).screenW = s.screenW := rfl
@[simp] theorem State.memWrite_screenH : (s.memWrite a v).screenH = s.screenH := rfl
@[simp] theorem State.memWrite_frameCounter : (s.memWrite a v).frameCounter = s.frameCounter := rfl
@[simp] theorem State.memWrite_events : (s.memWrite a v).events = s.events := rfl
@[simp] theorem State.memWrite_lifecycle : (s.memWrite a v).lifecycle = s.lifecycle := rfl
@[simp] theorem State.memWrite_params : (s.memWrite a v).params = s.params := rfl
@[simp] theorem State.memWrite_pending : (s.memWrite a v).pending = s.pending := rfl
@[simp] theorem State.memWrite_hostTickScale : (s.memWrite a v).hostTickScale = s.hostTickScale := rfl
@[simp] theorem State.memWrite_hostWriteBypass : (s.memWrite a v).hostWriteBypass = s.hostWriteBypass := rfl
@[simp] theorem State.memWrite_reply : (s.memWrite a v).reply = s.reply := rfl
@[simp] theorem State.memWrite_drawCount : (s.memWrite a v).drawCount = s.drawCount := rfl
@[simp] theorem State.memWrite_reg (j : BitVec 5) : (s.memWrite a v).reg j = s.reg j := rfl

end

/-! ### withIndex -/

section
variable (s : State) (i : BitVec 5)

@[simp] theorem State.withIndex_crtc : (s.withIndex i).crtc = s.crtc := rfl
@[simp] theorem State.withIndex_crtcIndex : (s.withIndex i).crtcIndex = i := rfl
@[simp] theorem State.withIndex_mode : (s.withIndex i).mode = s.mode := rfl
@[simp] theorem State.withIndex_modeExt : (s.withIndex i).modeExt = s.modeExt := rfl
@[simp] theorem State.withIndex_status : (s.withIndex i).status = s.status := rfl
@[simp] theorem State.withIndex_palette : (s.withIndex i).palette = s.palette := rfl
@[simp] theorem State.withIndex_palExtCursor : (s.withIndex i).palExtCursor = s.palExtCursor := rfl
@[simp] theorem State.withIndex_palExtEnable : (s.withIndex i).palExtEnable = s.palExtEnable := rfl
@[simp] theorem State.withIndex_verticalCounter : (s.withIndex i).verticalCounter = s.verticalCounter := rfl
@[simp] theorem State.withIndex_scanlineCounter : (s.withIndex i).scanlineCounter = s.scanlineCounter := rfl
@[simp] theorem State.withIndex_displayLine : (s.withIndex i).displayLine = s.displayLine := rfl
@[simp] theorem State.withIndex_lineInFramePosition : (s.withIndex i).lineInFramePosition = s.lineInFramePosition := rfl
@[simp] theorem State.withIndex_verticalAdjustRemaining : (s.withIndex i).verticalAdjustRemaining = s.verticalAdjustRemaining := rfl
@[simp] theorem State.withIndex_verticalSyncRemaining : (s.withIndex i).verticalSyncRemaining = s.verticalSyncRemaining := rfl
@[simp] theorem State.withIndex_firstVisibleLine : (s.withIndex i).firstVisibleLine = s.firstVisibleLine := rfl
@[simp] theorem State.withIndex_lastVisibleLine : (s.withIndex i).lastVisibleLine = s.lastVisibleLine := rfl
@[simp] theorem State.withIndex_displayActive : (s.withIndex i).displayActive = s.displayActive := rfl
@[simp] theorem State.withIndex_memoryAddress : (s.withIndex i).memoryAddress = s.memoryAddress := rfl
@[simp] theorem State.withIndex_memoryAddressBackup : (s.withIndex i).memoryAddressBackup = s.memoryAddressBackup := rfl
@[simp] theorem State.withIndex_cursorEnabledWindow : (s.withIndex i).cursorEnabledWindow = s.cursorEnabledWindow := rfl
@[simp] theorem State.withIndex_cursorDisabledWindow : (s.withIndex i).cursorDisabledWindow = s.cursorDisabledWindow := rfl
@[simp] theorem State.withIndex_cursorVisible : (s.withIndex i).cursorVisible = s.cursorVisible := rfl
@[simp] theorem State.withIndex_blinkCounter : (s.withIndex i).blinkCounter = s.blinkCounter := rfl
@[simp] theorem State.withIndex_visiblePeriodTicks : (s.withIndex i).visiblePeriodTicks = s.visiblePeriodTicks := rfl
@[simp] theorem State.withIndex_blankPeriodTicks : (s.withIndex i).blankPeriodTicks = s.blankPeriodTicks := rfl
@[simp] theorem State.withIndex_tickScale : (s.withIndex i).tickScale = s.tickScale := rfl
@[simp] theorem State.withIndex_accumulatedDeviceTime : (s.withIndex i).accumulatedDeviceTime = s.accumulatedDeviceTime := rfl
@[simp] theorem State.withIndex_vram : (s.withIndex i).vram = s.vram := rfl
@[simp] theorem State.withIndex_claimedWindow : (s.withIndex i).claimedWindow = s.claimedWindow := rfl
@[simp] theorem State.withIndex_screenW : (s.withIndex i).screenW = s.screenW := rfl
@[simp] theorem State.withIndex_screenH : (s.withIndex i).screenH = s.screenH := rfl
@[simp] theorem State.withIndex_frameCounter : (s.withIndex i).frameCounter = s.frameCounter := rfl
@[simp] theorem State.withIndex_events : (s.withIndex i).events = s.events := rfl
@[simp] theorem State.withIndex_lifecycle : (s.withIndex i).lifecycle = s.lifecycle := rfl
@[simp] theorem State.withIndex_params : (s.withIndex i).params = s.params := rfl
@[simp] theorem State.withIndex_pending : (s.withIndex i).pending = s.pending := rfl
@[simp] theorem State.withIndex_hostTickScale : (s.withIndex i).hostTickScale = s.hostTickScale := rfl
@[simp] theorem State.withIndex_hostWriteBypass : (s.withIndex i).hostWriteBypass = s.hostWriteBypass := rfl
@[simp] theorem State.withIndex_reply : (s.withIndex i).reply = s.reply := rfl
@[simp] theorem State.withIndex_drawCount : (s.withIndex i).drawCount = s.drawCount := rfl
@[simp] theorem State.withIndex_reg (j : BitVec 5) : (s.withIndex i).reg j = s.reg j := rfl
@[simp] theorem State.withIndex_memRead (x : Offset) : (s.withIndex i).memRead x = s.memRead x := rfl

end

/-! ### withMode -/

section
variable (s : State) (v : Byte)

@[simp] theorem State.withMode_crtc : (s.withMode v).crtc = s.crtc := rfl
@[simp] theorem State.withMode_crtcIndex : (s.withMode v).crtcIndex = s.crtcIndex := rfl
@[simp] theorem State.withMode_mode : (s.withMode v).mode = v := rfl
@[simp] theorem State.withMode_modeExt : (s.withMode v).modeExt = s.modeExt := rfl
@[simp] theorem State.withMode_status : (s.withMode v).status = s.status := rfl
@[simp] theorem State.withMode_palette : (s.withMode v).palette = s.palette := rfl
@[simp] theorem State.withMode_palExtCursor : (s.withMode v).palExtCursor = s.palExtCursor := rfl
@[simp] theorem State.withMode_palExtEnable : (s.withMode v).palExtEnable = s.palExtEnable := rfl
@[simp] theorem State.withMode_verticalCounter : (s.withMode v).verticalCounter = s.verticalCounter := rfl
@[simp] theorem State.withMode_scanlineCounter : (s.withMode v).scanlineCounter = s.scanlineCounter := rfl
@[simp] theorem State.withMode_displayLine : (s.withMode v).displayLine = s.displayLine := rfl
@[simp] theorem State.withMode_lineInFramePosition : (s.withMode v).lineInFramePosition = s.lineInFramePosition := rfl
@[simp] theorem State.withMode_verticalAdjustRemaining : (s.withMode v).verticalAdjustRemaining = s.verticalAdjustRemaining := rfl
@[simp] theorem State.withMode_verticalSyncRemaining : (s.withMode v).verticalSyncRemaining = s.verticalSyncRemaining := rfl
@[simp] theorem State.withMode_firstVisibleLine : (s.withMode v).firstVisibleLine = s.firstVisibleLine := rfl
@[simp] theorem State.withMode_lastVisibleLine : (s.withMode v).lastVisibleLine = s.lastVisibleLine := rfl
@[simp] theorem State.withMode_displayActive : (s.withMode v).displayActive = s.displayActive := rfl
@[simp] theorem State.withMode_memoryAddress : (s.withMode v).memoryAddress = s.memoryAddress := rfl
@[simp] theorem State.withMode_memoryAddressBackup : (s.withMode v).memoryAddressBackup = s.memoryAddressBackup := rfl
@[simp] theorem State.withMode_cursorEnabledWindow : (s.withMode v).cursorEnabledWindow = s.cursorEnabledWindow := rfl
@[simp] theorem State.withMode_cursorDisabledWindow : (s.withMode v).cursorDisabledWindow = s.cursorDisabledWindow := rfl
@[simp] theorem State.withMode_cursorVisible : (s.withMode v).cursorVisible = s.cursorVisible := rfl
@[simp] theorem State.withMode_blinkCounter : (s.withMode v).blinkCounter = s.blinkCounter := rfl
@[simp] theorem State.withMode_visiblePeriodTicks : (s.withMode v).visiblePeriodTicks = s.visiblePeriodTicks := rfl
@[simp] theorem State.withMode_blankPeriodTicks : (s.withMode v).blankPeriodTicks = s.blankPeriodTicks := rfl
@[simp] theorem State.withMode_tickScale : (s.withMode v).tickScale = s.tickScale := rfl
@[simp] theorem State.withMode_accumulatedDeviceTime : (s.withMode v).accumulatedDeviceTime = s.accumulatedDeviceTime := rfl
@[simp] theorem State.withMode_vram : (s.withMode v).vram = s.vram := rfl
@[simp] theorem State.withMode_claimedWindow : (s.withMode v).claimedWindow = s.claimedWindow := rfl
@[simp] theorem State.withMode_screenW : (s.withMode v).screenW = s.screenW := rfl
@[simp] theorem State.withMode_screenH : (s.withMode v).screenH = s.screenH := rfl
@[simp] theorem State.withMode_frameCounter : (s.withMode v).frameCounter = s.frameCounter := rfl
@[simp] theorem State.withMode_events : (s.withMode v).events = s.events := rfl
@[simp] theorem State.withMode_lifecycle : (s.withMode v).lifecycle = s.lifecycle := rfl
@[simp] theorem State.withMode_params : (s.withMode v).params = s.params := rfl
@[simp] theorem State.withMode_pending : (s.withMode v).pending = s.pending := rfl
@[simp] theorem State.withMode_hostTickScale : (s.withMode v).hostTickScale = s.hostTickScale := rfl
@[simp] theorem State.withMode_hostWriteBypass : (s.withMode v).hostWriteBypass = s.hostWriteBypass := rfl
@[simp] theorem State.withMode_reply : (s.withMode v).reply = s.reply := rfl
@[simp] theorem State.withMode_drawCount : (s.withMode v).drawCount = s.drawCount := rfl
@[simp] theorem State.withMode_reg (j : BitVec 5) : (s.withMode v).reg j = s.reg j := rfl
@[simp] theorem State.withMode_memRead (x : Offset) : (s.withMode v).memRead x = s.memRead x := rfl

end

/-! ### withModeExt -/

section
variable (s : State) (v : Byte)

@[simp] theorem State.withModeExt_crtc : (s.withModeExt v).crtc = s.crtc := rfl
@[simp] theorem State.withModeExt_crtcIndex : (s.withModeExt v).crtcIndex = s.crtcIndex := rfl
@[simp] theorem State.withModeExt_mode : (s.withModeExt v).mode = s.mode := rfl
@[simp] theorem State.withModeExt_modeExt : (s.withModeExt v).modeExt = v := rfl
@[simp] theorem State.withModeExt_status : (s.withModeExt v).status = s.status := rfl
@[simp] theorem State.withModeExt_palette : (s.withModeExt v).palette = s.palette := rfl
@[simp] theorem State.withModeExt_palExtCursor : (s.withModeExt v).palExtCursor = s.palExtCursor := rfl
@[simp] theorem State.withModeExt_palExtEnable : (s.withModeExt v).palExtEnable = s.palExtEnable := rfl
@[simp] theorem State.withModeExt_verticalCounter : (s.withModeExt v).verticalCounter = s.verticalCounter := rfl
@[simp] theorem State.withModeExt_scanlineCounter : (s.withModeExt v).scanlineCounter = s.scanlineCounter := rfl
@[simp] theorem State.withModeExt_displayLine : (s.withModeExt v).displayLine = s.displayLine := rfl
@[simp] theorem State.withModeExt_lineInFramePosition : (s.withModeExt v).lineInFramePosition = s.lineInFramePosition := rfl
@[simp] theorem State.withModeExt_verticalAdjustRemaining : (s.withModeExt v).verticalAdjustRemaining = s.verticalAdjustRemaining := rfl
@[simp] theorem State.withModeExt_verticalSyncRemaining : (s.withModeExt v).verticalSyncRemaining = s.verticalSyncRemaining := rfl
@[simp] theorem State.withModeExt_firstVisibleLine : (s.withModeExt v).firstVisibleLine = s.firstVisibleLine := rfl
@[simp] theorem State.withModeExt_lastVisibleLine : (s.withModeExt v).lastVisibleLine = s.lastVisibleLine := rfl
@[simp] theorem State.withModeExt_displayActive : (s.withModeExt v).displayActive = s.displayActive := rfl
@[simp] theorem State.withModeExt_memoryAddress : (s.withModeExt v).memoryAddress = s.memoryAddress := rfl
@[simp] theorem State.withModeExt_memoryAddressBackup : (s.withModeExt v).memoryAddressBackup = s.memoryAddressBackup := rfl
@[simp] theorem State.withModeExt_cursorEnabledWindow : (s.withModeExt v).cursorEnabledWindow = s.cursorEnabledWindow := rfl
@[simp] theorem State.withModeExt_cursorDisabledWindow : (s.withModeExt v).cursorDisabledWindow = s.cursorDisabledWindow := rfl
@[simp] theorem State.withModeExt_cursorVisible : (s.withModeExt v).cursorVisible = s.cursorVisible := rfl
@[simp] theorem State.withModeExt_blinkCounter : (s.withModeExt v).blinkCounter = s.blinkCounter := rfl
@[simp] theorem State.withModeExt_visiblePeriodTicks : (s.withModeExt v).visiblePeriodTicks = s.visiblePeriodTicks := rfl
@[simp] theorem State.withModeExt_blankPeriodTicks : (s.withModeExt v).blankPeriodTicks = s.blankPeriodTicks := rfl
@[simp] theorem State.withModeExt_tickScale : (s.withModeExt v).tickScale = s.tickScale := rfl
@[simp] theorem State.withModeExt_accumulatedDeviceTime : (s.withModeExt v).accumulatedDeviceTime = s.accumulatedDeviceTime := rfl
@[simp] theorem State.withModeExt_vram : (s.withModeExt v).vram = s.vram := rfl
@[simp] theorem State.withModeExt_claimedWindow : (s.withModeExt v).claimedWindow = s.claimedWindow := rfl
@[simp] theorem State.withModeExt_screenW : (s.withModeExt v).screenW = s.screenW := rfl
@[simp] theorem State.withModeExt_screenH : (s.withModeExt v).screenH = s.screenH := rfl
@[simp] theorem State.withModeExt_frameCounter : (s.withModeExt v).frameCounter = s.frameCounter := rfl
@[simp] theorem State.withModeExt_events : (s.withModeExt v).events = s.events := rfl
@[simp] theorem State.withModeExt_lifecycle : (s.withModeExt v).lifecycle = s.lifecycle := rfl
@[simp] theorem State.withModeExt_params : (s.withModeExt v).params = s.params := rfl
@[simp] theorem State.withModeExt_pending : (s.withModeExt v).pending = s.pending := rfl
@[simp] theorem State.withModeExt_hostTickScale : (s.withModeExt v).hostTickScale = s.hostTickScale := rfl
@[simp] theorem State.withModeExt_hostWriteBypass : (s.withModeExt v).hostWriteBypass = s.hostWriteBypass := rfl
@[simp] theorem State.withModeExt_reply : (s.withModeExt v).reply = s.reply := rfl
@[simp] theorem State.withModeExt_drawCount : (s.withModeExt v).drawCount = s.drawCount := rfl
@[simp] theorem State.withModeExt_reg (j : BitVec 5) : (s.withModeExt v).reg j = s.reg j := rfl
@[simp] theorem State.withModeExt_memRead (x : Offset) : (s.withModeExt v).memRead x = s.memRead x := rfl

end

/-! ### withWindow -/

section
variable (s : State) (w : Window)

@[simp] theorem State.withWindow_crtc : (s.withWindow w).crtc = s.crtc := rfl
@[simp] theorem State.withWindow_crtcIndex : (s.withWindow w).crtcIndex = s.crtcIndex := rfl
@[simp] theorem State.withWindow_mode : (s.withWindow w).mode = s.mode := rfl
@[simp] theorem State.withWindow_modeExt : (s.withWindow w).modeExt = s.modeExt := rfl
@[simp] theorem State.withWindow_status : (s.withWindow w).status = s.status := rfl
@[simp] theorem State.withWindow_palette : (s.withWindow w).palette = s.palette := rfl
@[simp] theorem State.withWindow_palExtCursor : (s.withWindow w).palExtCursor = s.palExtCursor := rfl
@[simp] theorem State.withWindow_palExtEnable : (s.withWindow w).palExtEnable = s.palExtEnable := rfl
@[simp] theorem State.withWindow_verticalCounter : (s.withWindow w).verticalCounter = s.verticalCounter := rfl
@[simp] theorem State.withWindow_scanlineCounter : (s.withWindow w).scanlineCounter = s.scanlineCounter := rfl
@[simp] theorem State.withWindow_displayLine : (s.withWindow w).displayLine = s.displayLine := rfl
@[simp] theorem State.withWindow_lineInFramePosition : (s.withWindow w).lineInFramePosition = s.lineInFramePosition := rfl
@[simp] theorem State.withWindow_verticalAdjustRemaining : (s.withWindow w).verticalAdjustRemaining = s.verticalAdjustRemaining := rfl
@[simp] theorem State.withWindow_verticalSyncRemaining : (s.withWindow w).verticalSyncRemaining = s.verticalSyncRemaining := rfl
@[simp] theorem State.withWindow_firstVisibleLine : (s.withWindow w).firstVisibleLine = s.firstVisibleLine := rfl
@[simp] theorem State.withWindow_lastVisibleLine : (s.withWindow w).lastVisibleLine = s.lastVisibleLine := rfl
@[simp] theorem State.withWindow_displayActive : (s.withWindow w).displayActive = s.displayActive := rfl
@[simp] theorem State.withWindow_memoryAddress : (s.withWindow w).memoryAddress = s.memoryAddress := rfl
@[simp] theorem State.withWindow_memoryAddressBackup : (s.withWindow w).memoryAddressBackup = s.memoryAddressBackup := rfl
@[simp] theorem State.withWindow_cursorEnabledWindow : (s.withWindow w).cursorEnabledWindow = s.cursorEnabledWindow := rfl
@[simp] theorem State.withWindow_cursorDisabledWindow : (s.withWindow w).cursorDisabledWindow = s.cursorDisabledWindow := rfl
@[simp] theorem State.withWindow_cursorVisible : (s.withWindow w).cursorVisible = s.cursorVisible := rfl
@[simp] theorem State.withWindow_blinkCounter : (s.withWindow w).blinkCounter = s.blinkCounter := rfl
@[simp] theorem State.withWindow_visiblePeriodTicks : (s.withWindow w).visiblePeriodTicks = s.visiblePeriodTicks := rfl
@[simp] theorem State.withWindow_blankPeriodTicks : (s.withWindow w).blankPeriodTicks = s.blankPeriodTicks := rfl
@[simp] theorem State.withWindow_tickScale : (s.withWindow w).tickScale = s.tickScale := rfl
@[simp] theorem State.withWindow_accumulatedDeviceTime : (s.withWindow w).accumulatedDeviceTime = s.accumulatedDeviceTime := rfl
@[simp] theorem State.withWindow_vram : (s.withWindow w).vram = s.vram := rfl
@[simp] theorem State.withWindow_claimedWindow : (s.withWindow w).claimedWindow = w := rfl
@[simp] theorem State.withWindow_screenW : (s.withWindow w).screenW = s.screenW := rfl
@[simp] theorem State.withWindow_screenH : (s.withWindow w).screenH = s.screenH := rfl
@[simp] theorem State.withWindow_frameCounter : (s.withWindow w).frameCounter = s.frameCounter := rfl
@[simp] theorem State.withWindow_events : (s.withWindow w).events = s.events := rfl
@[simp] theorem State.withWindow_lifecycle : (s.withWindow w).lifecycle = s.lifecycle := rfl
@[simp] theorem State.withWindow_params : (s.withWindow w).params = s.params := rfl
@[simp] theorem State.withWindow_pending : (s.withWindow w).pending = s.pending := rfl
@[simp] theorem State.withWindow_hostTickScale : (s.withWindow w).hostTickScale = s.hostTickScale := rfl
@[simp] theorem State.withWindow_hostWriteBypass : (s.withWindow w).hostWriteBypass = s.hostWriteBypass := rfl
@[simp] theorem State.withWindow_reply : (s.withWindow w).reply = s.reply := rfl
@[simp] theorem State.withWindow_drawCount : (s.withWindow w).drawCount = s.drawCount := rfl
@[simp] theorem State.withWindow_reg (j : BitVec 5) : (s.withWindow w).reg j = s.reg j := rfl
@[simp] theorem State.withWindow_memRead (x : Offset) : (s.withWindow w).memRead x = s.memRead x := rfl

end

/-! ### withStatus -/

section
variable (s : State) (v : Byte)

@[simp] theorem State.withStatus_crtc : (s.withStatus v).crtc = s.crtc := rfl
@[simp] theorem State.withStatus_crtcIndex : (s.withStatus v).crtcIndex = s.crtcIndex := rfl
@[simp] theorem State.withStatus_mode : (s.withStatus v).mode = s.mode := rfl
@[simp] theorem State.withStatus_modeExt : (s.withStatus v).modeExt = s.modeExt := rfl
@[simp] theorem State.withStatus_status : (s.withStatus v).status = v := rfl
@[simp] theorem State.withStatus_palette : (s.withStatus v).palette = s.palette := rfl
@[simp] theorem State.withStatus_palExtCursor : (s.withStatus v).palExtCursor = s.palExtCursor := rfl
@[simp] theorem State.withStatus_palExtEnable : (s.withStatus v).palExtEnable = s.palExtEnable := rfl
@[simp] theorem State.withStatus_verticalCounter : (s.withStatus v).verticalCounter = s.verticalCounter := rfl
@[simp] theorem State.withStatus_scanlineCounter : (s.withStatus v).scanlineCounter = s.scanlineCounter := rfl
@[simp] theorem State.withStatus_displayLine : (s.withStatus v).displayLine = s.displayLine := rfl
@[simp] theorem State.withStatus_lineInFramePosition : (s.withStatus v).lineInFramePosition = s.lineInFramePosition := rfl
@[simp] theorem State.withStatus_verticalAdjustRemaining : (s.withStatus v).verticalAdjustRemaining = s.verticalAdjustRemaining := rfl
@[simp] theorem State.withStatus_verticalSyncRemaining : (s.withStatus v).verticalSyncRemaining = s.verticalSyncRemaining := rfl
@[simp] theorem State.withStatus_firstVisibleLine : (s.withStatus v).firstVisibleLine = s.firstVisibleLine := rfl
@[simp] theorem State.withStatus_lastVisibleLine : (s.withStatus v).lastVisibleLine = s.lastVisibleLine := rfl
@[simp] theorem State.withStatus_displayActive : (s.withStatus v).displayActive = s.displayActive := rfl
@[simp] theorem State.withStatus_memoryAddress : (s.withStatus v).memoryAddress = s.memoryAddress := rfl
@[simp] theorem State.withStatus_memoryAddressBackup : (s.withStatus v).memoryAddressBackup = s.memoryAddressBackup := rfl
@[simp] theorem State.withStatus_cursorEnabledWindow : (s.withStatus v).cursorEnabledWindow = s.cursorEnabledWindow := rfl
@[simp] theorem State.withStatus_cursorDisabledWindow : (s.withStatus v).cursorDisabledWindow = s.cursorDisabledWindow := rfl
@[simp] theorem State.withStatus_cursorVisible : (s.withStatus v).cursorVisible = s.cursorVisible := rfl
@[simp] theorem State.withStatus_blinkCounter : (s.withStatus v).blinkCounter = s.blinkCounter := rfl
@[simp] theorem State.withStatus_visiblePeriodTicks : (s.withStatus v).visiblePeriodTicks = s.visiblePeriodTicks := rfl
@[simp] theorem State.withStatus_blankPeriodTicks : (s.withStatus v).blankPeriodTicks = s.blankPeriodTicks := rfl
@[simp] theorem State.withStatus_tickScale : (s.withStatus v).tickScale = s.tickScale := rfl
@[simp] theorem State.withStatus_accumulatedDeviceTime : (s.withStatus v).accumulatedDeviceTime = s.accumulatedDeviceTime := rfl
@[simp] theorem State.withStatus_vram : (s.withStatus v).vram = s.vram := rfl
@[simp] theorem State.withStatus_claimedWindow : (s.withStatus v).claimedWindow = s.claimedWindow := rfl
@[simp] theorem State.withStatus_screenW : (s.withStatus v).screenW = s.screenW := rfl
@[simp] theorem State.withStatus_screenH : (s.withStatus v).screenH = s.screenH := rfl
@[simp] theorem State.withStatus_frameCounter : (s.withStatus v).frameCounter = s.frameCounter := rfl
@[simp] theorem State.withStatus_events : (s.withStatus v).events = s.events := rfl
@[simp] theorem State.withStatus_lifecycle : (s.withStatus v).lifecycle = s.lifecycle := rfl
@[simp] theorem State.withStatus_params : (s.withStatus v).params = s.params := rfl
@[simp] theorem State.withStatus_pending : (s.withStatus v).pending = s.pending := rfl
@[simp] theorem State.withStatus_hostTickScale : (s.withStatus v).hostTickScale = s.hostTickScale := rfl
@[simp] theorem State.withStatus_hostWriteBypass : (s.withStatus v).hostWriteBypass = s.hostWriteBypass := rfl
@[simp] theorem State.withStatus_reply : (s.withStatus v).reply = s.reply := rfl
@[simp] theorem State.withStatus_drawCount : (s.withStatus v).drawCount = s.drawCount := rfl
@[simp] theorem State.withStatus_reg (j : BitVec 5) : (s.withStatus v).reg j = s.reg j := rfl
@[simp] theorem State.withStatus_memRead (x : Offset) : (s.withStatus v).memRead x = s.memRead x := rfl

end

/-! ### withRow -/

section
variable (s : State) (v : BitVec 7)

@[simp] theorem State.withRow_crtc : (s.withRow v).crtc = s.crtc := rfl
@[simp] theorem State.withRow_crtcIndex : (s.withRow v).crtcIndex = s.crtcIndex := rfl
@[simp] theorem State.withRow_mode : (s.withRow v).mode = s.mode := rfl
@[simp] theorem State.withRow_modeExt : (s.withRow v).modeExt = s.modeExt := rfl
@[simp] theorem State.withRow_status : (s.withRow v).status = s.status := rfl
@[simp] theorem State.withRow_palette : (s.withRow v).palette = s.palette := rfl
@[simp] theorem State.withRow_palExtCursor : (s.withRow v).palExtCursor = s.palExtCursor := rfl
@[simp] theorem State.withRow_palExtEnable : (s.withRow v).palExtEnable = s.palExtEnable := rfl
@[simp] theorem State.withRow_verticalCounter : (s.withRow v).verticalCounter = v := rfl
@[simp] theorem State.withRow_scanlineCounter : (s.withRow v).scanlineCounter = s.scanlineCounter := rfl
@[simp] theorem State.withRow_displayLine : (s.withRow v).displayLine = s.displayLine := rfl
@[simp] theorem State.withRow_lineInFramePosition : (s.withRow v).lineInFramePosition = s.lineInFramePosition := rfl
@[simp] theorem State.withRow_verticalAdjustRemaining : (s.withRow v).verticalAdjustRemaining = s.verticalAdjustRemaining := rfl
@[simp] theorem State.withRow_verticalSyncRemaining : (s.withRow v).verticalSyncRemaining = s.verticalSyncRemaining := rfl
@[simp] theorem State.withRow_firstVisibleLine : (s.withRow v).firstVisibleLine = s.firstVisibleLine := rfl
@[simp] theorem State.withRow_lastVisibleLine : (s.withRow v).lastVisibleLine = s.lastVisibleLine := rfl
@[simp] theorem State.withRow_displayActive : (s.withRow v).displayActive = s.displayActive := rfl
@[simp] theorem State.withRow_memoryAddress : (s.withRow v).memoryAddress = s.memoryAddress := rfl
@[simp] theorem State.withRow_memoryAddressBackup : (s.withRow v).memoryAddressBackup = s.memoryAddressBackup := rfl
@[simp] theorem State.withRow_cursorEnabledWindow : (s.withRow v).cursorEnabledWindow = s.cursorEnabledWindow := rfl
@[simp] theorem State.withRow_cursorDisabledWindow : (s.withRow v).cursorDisabledWindow = s.cursorDisabledWindow := rfl
@[simp] theorem State.withRow_cursorVisible : (s.withRow v).cursorVisible = s.cursorVisible := rfl
@[simp] theorem State.withRow_blinkCounter : (s.withRow v).blinkCounter = s.blinkCounter := rfl
@[simp] theorem State.withRow_visiblePeriodTicks : (s.withRow v).visiblePeriodTicks = s.visiblePeriodTicks := rfl
@[simp] theorem State.withRow_blankPeriodTicks : (s.withRow v).blankPeriodTicks = s.blankPeriodTicks := rfl
@[simp] theorem State.withRow_tickScale : (s.withRow v).tickScale = s.tickScale := rfl
@[simp] theorem State.withRow_accumulatedDeviceTime : (s.withRow v).accumulatedDeviceTime = s.accumulatedDeviceTime := rfl
@[simp] theorem State.withRow_vram : (s.withRow v).vram = s.vram := rfl
@[simp] theorem State.withRow_claimedWindow : (s.withRow v).claimedWindow = s.claimedWindow := rfl
@[simp] theorem State.withRow_screenW : (s.withRow v).screenW = s.screenW := rfl
@[simp] theorem State.withRow_screenH : (s.withRow v).screenH = s.screenH := rfl
@[simp] theorem State.withRow_frameCounter : (s.withRow v).frameCounter = s.frameCounter := rfl
@[simp] theorem State.withRow_events : (s.withRow v).events = s.events := rfl
@[simp] theorem State.withRow_lifecycle : (s.withRow v).lifecycle = s.lifecycle := rfl
@[simp] theorem State.withRow_params : (s.withRow v).params = s.params := rfl
@[simp] theorem State.withRow_pending : (s.withRow v).pending = s.pending := rfl
@[simp] theorem State.withRow_hostTickScale : (s.withRow v).hostTickScale = s.hostTickScale := rfl
@[simp] theorem State.withRow_hostWriteBypass : (s.withRow v).hostWriteBypass = s.hostWriteBypass := rfl
@[simp] theorem State.withRow_reply : (s.withRow v).reply = s.reply := rfl
@[simp] theorem State.withRow_drawCount : (s.withRow v).drawCount = s.drawCount := rfl
@[simp] theorem State.withRow_reg (j : BitVec 5) : (s.withRow v).reg j = s.reg j := rfl
@[simp] theorem State.withRow_memRead (x : Offset) : (s.withRow v).memRead x = s.memRead x := rfl

end

/-! ### withScanline -/

section
variable (s : State) (v : BitVec 5)

@[simp] theorem State.withScanline_crtc : (s.withScanline v).crtc = s.crtc := rfl
@[simp] theorem State.withScanline_crtcIndex : (s.withScanline v).crtcIndex = s.crtcIndex := rfl
@[simp] theorem State.withScanline_mode : (s.withScanline v).mode = s.mode := rfl
@[simp] theorem State.withScanline_modeExt : (s.withScanline v).modeExt = s.modeExt := rfl
@[simp] theorem State.withScanline_status : (s.withScanline v).status = s.status := rfl
@[simp] theorem State.withScanline_palette : (s.withScanline v).palette = s.palette := rfl
@[simp] theorem State.withScanline_palExtCursor : (s.withScanline v).palExtCursor = s.palExtCursor := rfl
@[simp] theorem State.withScanline_palExtEnable : (s.withScanline v).palExtEnable = s.palExtEnable := rfl
@[simp] theorem State.withScanline_verticalCounter : (s.withScanline v).verticalCounter = s.verticalCounter := rfl
@[simp] theorem State.withScanline_scanlineCounter : (s.withScanline v).scanlineCounter = v := rfl
@[simp] theorem State.withScanline_displayLine : (s.withScanline v).displayLine = s.displayLine := rfl
@[simp] theorem State.withScanline_lineInFramePosition : (s.withScanline v).lineInFramePosition = s.lineInFramePosition := rfl
@[simp] theorem State.withScanline_verticalAdjustRemaining : (s.withScanline v).verticalAdjustRemaining = s.verticalAdjustRemaining := rfl
@[simp] theorem State.withScanline_verticalSyncRemaining : (s.withScanline v).verticalSyncRemaining = s.verticalSyncRemaining := rfl
@[simp] theorem State.withScanline_firstVisibleLine : (s.withScanline v).firstVisibleLine = s.firstVisibleLine := rfl
@[simp] theorem State.withScanline_lastVisibleLine : (s.withScanline v).lastVisibleLine = s.lastVisibleLine := rfl
@[simp] theorem State.withScanline_displayActive : (s.withScanline v).displayActive = s.displayActive := rfl
@[simp] theorem State.withScanline_memoryAddress : (s.withScanline v).memoryAddress = s.memoryAddress := rfl
@[simp] theorem State.withScanline_memoryAddressBackup : (s.withScanline v).memoryAddressBackup = s.memoryAddressBackup := rfl
@[simp] theorem State.withScanline_cursorEnabledWindow : (s.withScanline v).cursorEnabledWindow = s.cursorEnabledWindow := rfl
@[simp] theorem State.withScanline_cursorDisabledWindow : (s.withScanline v).cursorDisabledWindow = s.cursorDisabledWindow := rfl
@[simp] theorem State.withScanline_cursorVisible : (s.withScanline v).cursorVisible = s.cursorVisible := rfl
@[simp] theorem State.withScanline_blinkCounter : (s.withScanline v).blinkCounter = s.blinkCounter := rfl
@[simp] theorem State.withScanline_visiblePeriodTicks : (s.withScanline v).visiblePeriodTicks = s.visiblePeriodTicks := rfl
@[simp] theorem State.withScanline_blankPeriodTicks : (s.withScanline v).blankPeriodTicks = s.blankPeriodTicks := rfl
@[simp] theorem State.withScanline_tickScale : (s.withScanline v).tickScale = s.tickScale := rfl
@[simp] theorem State.withScanline_accumulatedDeviceTime : (s.withScanline v).accumulatedDeviceTime = s.accumulatedDeviceTime := rfl
@[simp] theorem State.withScanline_vram : (s.withScanline v).vram = s.vram := rfl
@[simp] theorem State.withScanline_claimedWindow : (s.withScanline v).claimedWindow = s.claimedWindow := rfl
@[simp] theorem State.withScanline_screenW : (s.withScanline v).screenW = s.screenW := rfl
@[simp] theorem State.withScanline_screenH : (s.withScanline v).screenH = s.screenH := rfl
@[simp] theorem State.withScanline_frameCounter : (s.withScanline v).frameCounter = s.frameCounter := rfl
@[simp] theorem State.withScanline_events : (s.withScanline v).events = s.events := rfl
@[simp] theorem State.withScanline_lifecycle : (s.withScanline v).lifecycle = s.lifecycle := rfl
@[simp] theorem State.withScanline_params : (s.withScanline v).params = s.params := rfl
@[simp] theorem State.withScanline_pending : (s.withScanline v).pending = s.pending := rfl
@[simp] theorem State.withScanline_hostTickScale : (s.withScanline v).hostTickScale = s.hostTickScale := rfl
@[simp] theorem State.withScanline_hostWriteBypass : (s.withScanline v).hostWriteBypass = s.hostWriteBypass := rfl
@[simp] theorem State.withScanline_reply : (s.withScanline v).reply = s.reply := rfl
@[simp] theorem State.withScanline_drawCount : (s.withScanline v).drawCount = s.drawCount := rfl
@[simp] theorem State.withScanline_reg (j : BitVec 5) : (s.withScanline v).reg j = s.reg j := rfl
@[simp] theorem State.withScanline_memRead (x : Offset) : (s.withScanline v).memRead x = s.memRead x := rfl

end

/-! ### withDisplayLine -/

section
variable (s : State) (n : Nat)

@[simp] theorem State.withDisplayLine_crtc : (s.withDisplayLine n).crtc = s.crtc := rfl
@[simp] theorem State.withDisplayLine_crtcIndex : (s.withDisplayLine n).crtcIndex = s.crtcIndex := rfl
@[simp] theorem State.withDisplayLine_mode : (s.withDisplayLine n).mode = s.mode := rfl
@[simp] theorem State.withDisplayLine_modeExt : (s.withDisplayLine n).modeExt = s.modeExt := rfl
@[simp] theorem State.withDisplayLine_status : (s.withDisplayLine n).status = s.status := rfl
@[simp] theorem State.withDisplayLine_palette : (s.withDisplayLine n).palette = s.palette := rfl
@[simp] theorem State.withDisplayLine_palExtCursor : (s.withDisplayLine n).palExtCursor = s.palExtCursor := rfl
@[simp] theorem State.withDisplayLine_palExtEnable : (s.withDisplayLine n).palExtEnable = s.palExtEnable := rfl
@[simp] theorem State.withDisplayLine_verticalCounter : (s.withDisplayLine n).verticalCounter = s.verticalCounter := rfl
@[simp] theorem State.withDisplayLine_scanlineCounter : (s.withDisplayLine n).scanlineCounter = s.scanlineCounter := rfl
@[simp] theorem State.withDisplayLine_displayLine : (s.withDisplayLine n).displayLine = n := rfl
@[simp] theorem State.withDisplayLine_lineInFramePosition : (s.withDisplayLine n).lineInFramePosition = s.lineInFramePosition := rfl
@[simp] theorem State.withDisplayLine_verticalAdjustRemaining : (s.withDisplayLine n).verticalAdjustRemaining = s.verticalAdjustRemaining := rfl
@[simp] theorem State.withDisplayLine_verticalSyncRemaining : (s.withDisplayLine n).verticalSyncRemaining = s.verticalSyncRemaining := rfl
@[simp] theorem State.withDisplayLine_firstVisibleLine : (s.withDisplayLine n).firstVisibleLine = s.firstVisibleLine := rfl
@[simp] theorem State.withDisplayLine_lastVisibleLine : (s.withDisplayLine n).lastVisibleLine = s.lastVisibleLine := rfl
@[simp] theorem State.withDisplayLine_displayActive : (s.withDisplayLine n).displayActive = s.displayActive := rfl
@[simp] theorem State.withDisplayLine_memoryAddress : (s.withDisplayLine n).memoryAddress = s.memoryAddress := rfl
@[simp] theorem State.withDisplayLine_memoryAddressBackup : (s.withDisplayLine n).memoryAddressBackup = s.memoryAddressBackup := rfl
@[simp] theorem State.withDisplayLine_cursorEnabledWindow : (s.withDisplayLine n).cursorEnabledWindow = s.cursorEnabledWindow := rfl
@[simp] theorem State.withDisplayLine_cursorDisabledWindow : (s.withDisplayLine n).cursorDisabledWindow = s.cursorDisabledWindow := rfl
@[simp] theorem State.withDisplayLine_cursorVisible : (s.withDisplayLine n).cursorVisible = s.cursorVisible := rfl
@[simp] theorem State.withDisplayLine_blinkCounter : (s.withDisplayLine n).blinkCounter = s.blinkCounter := rfl
@[simp] theorem State.withDisplayLine_visiblePeriodTicks : (s.withDisplayLine n).visiblePeriodTicks = s.visiblePeriodTicks := rfl
@[simp] theorem State.withDisplayLine_blankPeriodTicks : (s.withDisplayLine n).blankPeriodTicks = s.blankPeriodTicks := rfl
@[simp] theorem State.withDisplayLine_tickScale : (s.withDisplayLine n).tickScale = s.tickScale := rfl
@[simp] theorem State.withDisplayLine_accumulatedDeviceTime : (s.withDisplayLine n).accumulatedDeviceTime = s.accumulatedDeviceTime := rfl
@[simp] theorem State.withDisplayLine_vram : (s.withDisplayLine n).vram = s.vram := rfl
@[simp] theorem State.withDisplayLine_claimedWindow : (s.withDisplayLine n).claimedWindow = s.claimedWindow := rfl
@[simp] theorem State.withDisplayLine_screenW : (s.withDisplayLine n).screenW = s.screenW := rfl
@[simp] theorem State.withDisplayLine_screenH : (s.withDisplayLine n).screenH = s.screenH := rfl
@[simp] theorem State.withDisplayLine_frameCounter : (s.withDisplayLine n).frameCounter = s.frameCounter := rfl
@[simp] theorem State.withDisplayLine_events : (s.withDisplayLine n).events = s.events := rfl
@[simp] theorem State.withDisplayLine_lifecycle : (s.withDisplayLine n).lifecycle = s.lifecycle := rfl
@[simp] theorem State.withDisplayLine_params : (s.withDisplayLine n).params = s.params := rfl
@[simp] theorem State.withDisplayLine_pending : (s.withDisplayLine n).pending = s.pending := rfl
@[simp] theorem State.withDisplayLine_hostTickScale : (s.withDisplayLine n).hostTickScale = s.hostTickScale := rfl
@[simp] theorem State.withDisplayLine_hostWriteBypass : (s.withDisplayLine n).hostWriteBypass = s.hostWriteBypass := rfl
@[simp] theorem State.withDisplayLine_reply : (s.withDisplayLine n).reply = s.reply := rfl
@[simp] theorem State.withDisplayLine_drawCount : (s.withDisplayLine n).drawCount = s.drawCount := rfl
@[simp] theorem State.withDisplayLine_reg (j : BitVec 5) : (s.withDisplayLine n).reg j = s.reg j := rfl
@[simp] theorem State.withDisplayLine_memRead (x : Offset) : (s.withDisplayLine n).memRead x = s.memRead x := rfl

end

/-! ### withHalf -/

section
variable (s : State) (b : Bool)

@[simp] theorem State.withHalf_crtc : (s.withHalf b).crtc = s.crtc := rfl
@[simp] theorem State.withHalf_crtcIndex : (s.withHalf b).crtcIndex = s.crtcIndex := rfl
@[simp] theorem State.withHalf_mode : (s.withHalf b).mode = s.mode := rfl
@[simp] theorem State.withHalf_modeExt : (s.withHalf b).modeExt = s.modeExt := rfl
@[simp] theorem State.withHalf_status : (s.withHalf b).status = s.status := rfl
@[simp] theorem State.withHalf_palette : (s.withHalf b).palette = s.palette := rfl
@[simp] theorem State.withHalf_palExtCursor : (s.withHalf b).palExtCursor = s.palExtCursor := rfl
@[simp] theorem State.withHalf_palExtEnable : (s.withHalf b).palExtEnable = s.palExtEnable := rfl
@[simp] theorem State.withHalf_verticalCounter : (s.withHalf b).verticalCounter = s.verticalCounter := rfl
@[simp] theorem State.withHalf_scanlineCounter : (s.withHalf b).scanlineCounter = s.scanlineCounter := rfl
@[simp] theorem State.withHalf_displayLine : (s.withHalf b).displayLine = s.displayLine := rfl
@[simp] theorem State.withHalf_lineInFramePosition : (s.withHalf b).lineInFramePosition = b := rfl
@[simp] theorem State.withHalf_verticalAdjustRemaining : (s.withHalf b).verticalAdjustRemaining = s.verticalAdjustRemaining := rfl
@[simp] theorem State.withHalf_verticalSyncRemaining : (s.withHalf b).verticalSyncRemaining = s.verticalSyncRemaining := rfl
@[simp] theorem State.withHalf_firstVisibleLine : (s.withHalf b).firstVisibleLine = s.firstVisibleLine := rfl
@[simp] theorem State.withHalf_lastVisibleLine : (s.withHalf b).lastVisibleLine = s.lastVisibleLine := rfl
@[simp] theorem State.withHalf_displayActive : (s.withHalf b).displayActive = s.displayActive := rfl
@[simp] theorem State.withHalf_memoryAddress : (s.withHalf b).memoryAddress = s.memoryAddress := rfl
@[simp] theorem State.withHalf_memoryAddressBackup : (s.withHalf b).memoryAddressBackup = s.memoryAddressBackup := rfl
@[simp] theorem State.withHalf_cursorEnabledWindow : (s.withHalf b).cursorEnabledWindow = s.cursorEnabledWindow := rfl
@[simp] theorem State.withHalf_cursorDisabledWindow : (s.withHalf b).cursorDisabledWindow = s.cursorDisabledWindow := rfl
@[simp] theorem State.withHalf_cursorVisible : (s.withHalf b).cursorVisible = s.cursorVisible := rfl
@[simp] theorem State.withHalf_blinkCounter : (s.withHalf b).blinkCounter = s.blinkCounter := rfl
@[simp] theorem State.withHalf_visiblePeriodTicks : (s.withHalf b).visiblePeriodTicks = s.visiblePeriodTicks := rfl
@[simp] theorem State.withHalf_blankPeriodTicks : (s.withHalf b).blankPeriodTicks = s.blankPeriodTicks := rfl
@[simp] theorem State.withHalf_tickScale : (s.withHalf b).tickScale = s.tickScale := rfl
@[simp] theorem State.withHalf_accumulatedDeviceTime : (s.withHalf b).accumulatedDeviceTime = s.accumulatedDeviceTime := rfl
@[simp] theorem State.withHalf_vram : (s.withHalf b).vram = s.vram := rfl
@[simp] theorem State.withHalf_claimedWindow : (s.withHalf b).claimedWindow = s.claimedWindow := rfl
@[simp] theorem State.withHalf_screenW : (s.withHalf b).screenW = s.screenW := rfl
@[simp] theorem State.withHalf_screenH : (s.withHalf b).screenH = s.screenH := rfl
@[simp] theorem State.withHalf_frameCounter : (s.withHalf b).frameCounter = s.frameCounter := rfl
@[simp] theorem State.withHalf_events : (s.withHalf b).events = s.events := rfl
@[simp] theorem State.withHalf_lifecycle : (s.withHalf b).lifecycle = s.lifecycle := rfl
@[simp] theorem State.withHalf_params : (s.withHalf b).params = s.params := rfl
@[simp] theorem State.withHalf_pending : (s.withHalf b).pending = s.pending := rfl
@[simp] theorem State.withHalf_hostTickScale : (s.withHalf b).hostTickScale = s.hostTickScale := rfl
@[simp] theorem State.withHalf_hostWriteBypass : (s.withHalf b).hostWriteBypass = s.hostWriteBypass := rfl
@[simp] theorem State.withHalf_reply : (s.withHalf b).reply = s.reply := rfl
@[simp] theorem State.withHalf_drawCount : (s.withHalf b).drawCount = s.drawCount := rfl
@[simp] theorem State.withHalf_reg (j : BitVec 5) : (s.withHalf b).reg j = s.reg j := rfl
@[simp] theorem State.withHalf_memRead (x : Offset) : (s.withHalf b).memRead x = s.memRead x := rfl

end

/-! ### withAdjust -/

section
variable (s : State) (n : Byte)

@[simp] theorem State.withAdjust_crtc : (s.withAdjust n).crtc = s.crtc := rfl
@[simp] theorem State.withAdjust_crtcIndex : (s.withAdjust n).crtcIndex = s.crtcIndex := rfl
@[simp] theorem State.withAdjust_mode : (s.withAdjust n).mode = s.mode := rfl
@[simp] theorem State.withAdjust_modeExt : (s.withAdjust n).modeExt = s.modeExt := rfl
@[simp] theorem State.withAdjust_status : (s.withAdjust n).status = s.status := rfl
@[simp] theorem State.withAdjust_palette : (s.withAdjust n).palette = s.palette := rfl
@[simp] theorem State.withAdjust_palExtCursor : (s.withAdjust n).palExtCursor = s.palExtCursor := rfl
@[simp] theorem State.withAdjust_palExtEnable : (s.withAdjust n).palExtEnable = s.palExtEnable := rfl
@[simp] theorem State.withAdjust_verticalCounter : (s.withAdjust n).verticalCounter = s.verticalCounter := rfl
@[simp] theorem State.withAdjust_scanlineCounter : (s.withAdjust n).scanlineCounter = s.scanlineCounter := rfl
@[simp] theorem State.withAdjust_displayLine : (s.withAdjust n).displayLine = s.displayLine := rfl
@[simp] theorem State.withAdjust_lineInFramePosition : (s.withAdjust n).lineInFramePosition = s.lineInFramePosition := rfl
@[simp] theorem State.withAdjust_verticalAdjustRemaining : (s.withAdjust n).verticalAdjustRemaining = n := rfl
@[simp] theorem State.withAdjust_verticalSyncRemaining : (s.withAdjust n).verticalSyncRemaining = s.verticalSyncRemaining := rfl
@[simp] theorem State.withAdjust_firstVisibleLine : (s.withAdjust n).firstVisibleLine = s.firstVisibleLine := rfl
@[simp] theorem State.withAdjust_lastVisibleLine : (s.withAdjust n).lastVisibleLine = s.lastVisibleLine := rfl
@[simp] theorem State.withAdjust_displayActive : (s.withAdjust n).displayActive = s.displayActive := rfl
@[simp] theorem State.withAdjust_memoryAddress : (s.withAdjust n).memoryAddress = s.memoryAddress := rfl
@[simp] theorem State.withAdjust_memoryAddressBackup : (s.withAdjust n).memoryAddressBackup = s.memoryAddressBackup := rfl
@[simp] theorem State.withAdjust_cursorEnabledWindow : (s.withAdjust n).cursorEnabledWindow = s.cursorEnabledWindow := rfl
@[simp] theorem State.withAdjust_cursorDisabledWindow : (s.withAdjust n).cursorDisabledWindow = s.cursorDisabledWindow := rfl
@[simp] theorem State.withAdjust_cursorVisible : (s.withAdjust n).cursorVisible = s.cursorVisible := rfl
@[simp] theorem State.withAdjust_blinkCounter : (s.withAdjust n).blinkCounter = s.blinkCounter := rfl
@[simp] theorem State.withAdjust_visiblePeriodTicks : (s.withAdjust n).visiblePeriodTicks = s.visiblePeriodTicks := rfl
@[simp] theorem State.withAdjust_blankPeriodTicks : (s.withAdjust n).blankPeriodTicks = s.blankPeriodTicks := rfl
@[simp] theorem State.withAdjust_tickScale : (s.withAdjust n).tickScale = s.tickScale := rfl
@[simp] theorem State.withAdjust_accumulatedDeviceTime : (s.withAdjust n).accumulatedDeviceTime = s.accumulatedDeviceTime := rfl
@[simp] theorem State.withAdjust_vram : (s.withAdjust n).vram = s.vram := rfl
@[simp] theorem State.withAdjust_claimedWindow : (s.withAdjust n).claimedWindow = s.claimedWindow := rfl
@[simp] theorem State.withAdjust_screenW : (s.withAdjust n).screenW = s.screenW := rfl
@[simp] theorem State.withAdjust_screenH : (s.withAdjust n).screenH = s.screenH := rfl
@[simp] theorem State.withAdjust_frameCounter : (s.withAdjust n).frameCounter = s.frameCounter := rfl
@[simp] theorem State.withAdjust_events : (s.withAdjust n).events = s.events := rfl
@[simp] theorem State.withAdjust_lifecycle : (s.withAdjust n).lifecycle = s.lifecycle := rfl
@[simp] theorem State.withAdjust_params : (s.withAdjust n).params = s.params := rfl
@[simp] theorem State.withAdjust_pending : (s.withAdjust n).pending = s.pending := rfl
@[simp] theorem State.withAdjust_hostTickScale : (s.withAdjust n).hostTickScale = s.hostTickScale := rfl
@[simp] theorem State.withAdjust_hostWriteBypass : (s.withAdjust n).hostWriteBypass = s.hostWriteBypass := rfl
@[simp] theorem State.withAdjust_reply : (s.withAdjust n).reply = s.reply := rfl
@[simp] theorem State.withAdjust_drawCount : (s.withAdjust n).drawCount = s.drawCount := rfl
@[simp] theorem State.withAdjust_reg (j : BitVec 5) : (s.withAdjust n).reg j = s.reg j := rfl
@[simp] theorem State.withAdjust_memRead (x : Offset) : (s.withAdjust n).memRead x = s.memRead x := rfl

end

/-! ### withVsync -/

section
variable (s : State) (n : Byte)

@[simp] theorem State.withVsync_crtc : (s.withVsync n).crtc = s.crtc := rfl
@[simp] theorem State.withVsync_crtcIndex : (s.withVsync n).crtcIndex = s.crtcIndex := rfl
@[simp] theorem State.withVsync_mode : (s.withVsync n).mode = s.mode := rfl
@[simp] theorem State.withVsync_modeExt : (s.withVsync n).modeExt = s.modeExt := rfl
@[simp] theorem State.withVsync_status : (s.withVsync n).status = s.status := rfl
@[simp] theorem State.withVsync_palette : (s.withVsync n).palette = s.palette := rfl
@[simp] theorem State.withVsync_palExtCursor : (s.withVsync n).palExtCursor = s.palExtCursor := rfl
@[simp] theorem State.withVsync_palExtEnable : (s.withVsync n).palExtEnable = s.palExtEnable := rfl
@[simp] theorem State.withVsync_verticalCounter : (s.withVsync n).verticalCounter = s.verticalCounter := rfl
@[simp] theorem State.withVsync_scanlineCounter : (s.withVsync n).scanlineCounter = s.scanlineCounter := rfl
@[simp] theorem State.withVsync_displayLine : (s.withVsync n).displayLine = s.displayLine := rfl
@[simp] theorem State.withVsync_lineInFramePosition : (s.withVsync n).lineInFramePosition = s.lineInFramePosition := rfl
@[simp] theorem State.withVsync_verticalAdjustRemaining : (s.withVsync n).verticalAdjustRemaining = s.verticalAdjustRemaining := rfl
@[simp] theorem State.withVsync_verticalSyncRemaining : (s.withVsync n).verticalSyncRemaining = n := rfl
@[simp] theorem State.withVsync_firstVisibleLine : (s.withVsync n).firstVisibleLine = s.firstVisibleLine := rfl
@[simp] theorem State.withVsync_lastVisibleLine : (s.withVsync n).lastVisibleLine = s.lastVisibleLine := rfl
@[simp] theorem State.withVsync_displayActive : (s.withVsync n).displayActive = s.displayActive := rfl
@[simp] theorem State.withVsync_memoryAddress : (s.withVsync n).memoryAddress = s.memoryAddress := rfl
@[simp] theorem State.withVsync_memoryAddressBackup : (s.withVsync n).memoryAddressBackup = s.memoryAddressBackup := rfl
@[simp] theorem State.withVsync_cursorEnabledWindow : (s.withVsync n).cursorEnabledWindow = s.cursorEnabledWindow := rfl
@[simp] theorem State.withVsync_cursorDisabledWindow : (s.withVsync n).cursorDisabledWindow = s.cursorDisabledWindow := rfl
@[simp] theorem State.withVsync_cursorVisible : (s.withVsync n).cursorVisible = s.cursorVisible := rfl
@[simp] theorem State.withVsync_blinkCounter : (s.withVsync n).blinkCounter = s.blinkCounter := rfl
@[simp] theorem State.withVsync_visiblePeriodTicks : (s.withVsync n).visiblePeriodTicks = s.visiblePeriodTicks := rfl
@[simp] theorem State.withVsync_blankPeriodTicks : (s.withVsync n).blankPeriodTicks = s.blankPeriodTicks := rfl
@[simp] theorem State.withVsync_tickScale : (s.withVsync n).tickScale = s.tickScale := rfl
@[simp] theorem State.withVsync_accumulatedDeviceTime : (s.withVsync n).accumulatedDeviceTime = s.accumulatedDeviceTime := rfl
@[simp] theorem State.withVsync_vram : (s.withVsync n).vram = s.vram := rfl
@[simp] theorem State.withVsync_claimedWindow : (s.withVsync n).claimedWindow = s.claimedWindow := rfl
@[simp] theorem State.withVsync_screenW : (s.withVsync n).screenW = s.screenW := rfl
@[simp] theorem State.withVsync_screenH : (s.withVsync n).screenH = s.screenH := rfl
@[simp] theorem State.withVsync_frameCounter : (s.withVsync n).frameCounter = s.frameCounter := rfl
@[simp] theorem State.withVsync_events : (s.withVsync n).events = s.events := rfl
@[simp] theorem State.withVsync_lifecycle : (s.withVsync n).lifecycle = s.lifecycle := rfl
@[simp] theorem State.withVsync_params : (s.withVsync n).params = s.params := rfl
@[simp] theorem State.withVsync_pending : (s.withVsync n).pending = s.pending := rfl
@[simp] theorem State.withVsync_hostTickScale : (s.withVsync n).hostTickScale = s.hostTickScale := rfl
@[simp] theorem State.withVsync_hostWriteBypass : (s.withVsync n).hostWriteBypass = s.hostWriteBypass := rfl
@[simp] theorem State.withVsync_reply : (s.withVsync n).reply = s.reply := rfl
@[simp] theorem State.withVsync_drawCount : (s.withVsync n).drawCount = s.drawCount := rfl
@[simp] theorem State.withVsync_reg (j : BitVec 5) : (s.withVsync n).reg j = s.reg j := rfl
@[simp] theorem State.withVsync_memRead (x : Offset) : (s.withVsync n).memRead x = s.memRead x := rfl

end

/-! ### withFirstLine -/

section
variable (s : State) (n : Int)

@[simp] theorem State.withFirstLine_crtc : (s.withFirstLine n).crtc = s.crtc := rfl
@[simp] theorem State.withFirstLine_crtcIndex : (s.withFirstLine n).crtcIndex = s.crtcIndex := rfl
@[simp] theorem State.withFirstLine_mode : (s.withFirstLine n).mode = s.mode := rfl
@[simp] theorem State.withFirstLine_modeExt : (s.withFirstLine n).modeExt = s.modeExt := rfl
@[simp] theorem State.withFirstLine_status : (s.withFirstLine n).status = s.status := rfl
@[simp] theorem State.withFirstLine_palette : (s.withFirstLine n).palette = s.palette := rfl
@[simp] theorem State.withFirstLine_palExtCursor : (s.withFirstLine n).palExtCursor = s.palExtCursor := rfl
@[simp] theorem State.withFirstLine_palExtEnable : (s.withFirstLine n).palExtEnable = s.palExtEnable := rfl
@[simp] theorem State.withFirstLine_verticalCounter : (s.withFirstLine n).verticalCounter = s.verticalCounter := rfl
@[simp] theorem State.withFirstLine_scanlineCounter : (s.withFirstLine n).scanlineCounter = s.scanlineCounter := rfl
@[simp] theorem State.withFirstLine_displayLine : (s.withFirstLine n).displayLine = s.displayLine := rfl
@[simp] theorem State.withFirstLine_lineInFramePosition : (s.withFirstLine n).lineInFramePosition = s.lineInFramePosition := rfl
@[simp] theorem State.withFirstLine_verticalAdjustRemaining : (s.withFirstLine n).verticalAdjustRemaining = s.verticalAdjustRemaining := rfl
@[simp] theorem State.withFirstLine_verticalSyncRemaining : (s.withFirstLine n).verticalSyncRemaining = s.verticalSyncRemaining := rfl
@[simp] theorem State.withFirstLine_firstVisibleLine : (s.withFirstLine n).firstVisibleLine = n := rfl
@[simp] theorem State.withFirstLine_lastVisibleLine : (s.withFirstLine n).lastVisibleLine = s.lastVisibleLine := rfl
@[simp] theorem State.withFirstLine_displayActive : (s.withFirstLine n).displayActive = s.displayActive := rfl
@[simp] theorem State.withFirstLine_memoryAddress : (s.withFirstLine n).memoryAddress = s.memoryAddress := rfl
@[simp] theorem State.withFirstLine_memoryAddressBackup : (s.withFirstLine n).memoryAddressBackup = s.memoryAddressBackup := rfl
@[simp] theorem State.withFirstLine_cursorEnabledWindow : (s.withFirstLine n).cursorEnabledWindow = s.cursorEnabledWindow := rfl
@[simp] theorem State.withFirstLine_cursorDisabledWindow : (s.withFirstLine n).cursorDisabledWindow = s.cursorDisabledWindow := rfl
@[simp] theorem State.withFirstLine_cursorVisible : (s.withFirstLine n).cursorVisible = s.cursorVisible := rfl
@[simp] theorem State.withFirstLine_blinkCounter : (s.withFirstLine n).blinkCounter = s.blinkCounter := rfl
@[simp] theorem State.withFirstLine_visiblePeriodTicks : (s.withFirstLine n).visiblePeriodTicks = s.visiblePeriodTicks := rfl
@[simp] theorem State.withFirstLine_blankPeriodTicks : (s.withFirstLine n).blankPeriodTicks = s.blankPeriodTicks := rfl
@[simp] theorem State.withFirstLine_tickScale : (s.withFirstLine n).tickScale = s.tickScale := rfl
@[simp] theorem State.withFirstLine_accumulatedDeviceTime : (s.withFirstLine n).accumulatedDeviceTime = s.accumulatedDeviceTime := rfl
@[simp] theorem State.withFirstLine_vram : (s.withFirstLine n).vram = s.vram := rfl
@[simp] theorem State.withFirstLine_claimedWindow : (s.withFirstLine n).claimedWindow = s.claimedWindow := rfl
@[simp] theorem State.withFirstLine_screenW : (s.withFirstLine n).screenW = s.screenW := rfl
@[simp] theorem State.withFirstLine_screenH : (s.withFirstLine n).screenH = s.screenH := rfl
@[simp] theorem State.withFirstLine_frameCounter : (s.withFirstLine n).frameCounter = s.frameCounter := rfl
@[simp] theorem State.withFirstLine_events : (s.withFirstLine n).events = s.events := rfl
@[simp] theorem State.withFirstLine_lifecycle : (s.withFirstLine n).lifecycle = s.lifecycle := rfl
@[simp] theorem State.withFirstLine_params : (s.withFirstLine n).params = s.params := rfl
@[simp] theorem State.withFirstLine_pending : (s.withFirstLine n).pending = s.pending := rfl
@[simp] theorem State.withFirstLine_hostTickScale : (s.withFirstLine n).hostTickScale = s.hostTickScale := rfl
@[simp] theorem State.withFirstLine_hostWriteBypass : (s.withFirstLine n).hostWriteBypass = s.hostWriteBypass := rfl
@[simp] theorem State.withFirstLine_reply : (s.withFirstLine n).reply = s.reply := rfl
@[simp] theorem State.withFirstLine_drawCount : (s.withFirstLine n).drawCount = s.drawCount := rfl
@[simp] theorem State.withFirstLine_reg (j : BitVec 5) : (s.withFirstLine n).reg j = s.reg j := rfl
@[simp] theorem State.withFirstLine_memRead (x : Offset) : (s.withFirstLine n).memRead x = s.memRead x := rfl

end

/-! ### withLastLine -/

section
variable (s : State) (n : Int)

@[simp] theorem State.withLastLine_crtc : (s.withLastLine n).crtc = s.crtc := rfl
@[simp] theorem State.withLastLine_crtcIndex : (s.withLastLine n).crtcIndex = s.crtcIndex := rfl
@[simp] theorem State.withLastLine_mode : (s.withLastLine n).mode = s.mode := rfl
@[simp] theorem State.withLastLine_modeExt : (s.withLastLine n).modeExt = s.modeExt := rfl
@[simp] theorem State.withLastLine_status : (s.withLastLine n).status = s.status := rfl
@[simp] theorem State.withLastLine_palette : (s.withLastLine n).palette = s.palette := rfl
@[simp] theorem State.withLastLine_palExtCursor : (s.withLastLine n).palExtCursor = s.palExtCursor := rfl
@[simp] theorem State.withLastLine_palExtEnable : (s.withLastLine n).palExtEnable = s.palExtEnable := rfl
@[simp] theorem State.withLastLine_verticalCounter : (s.withLastLine n).verticalCounter = s.verticalCounter := rfl
@[simp] theorem State.withLastLine_scanlineCounter : (s.withLastLine n).scanlineCounter = s.scanlineCounter := rfl
@[simp] theorem State.withLastLine_displayLine : (s.withLastLine n).displayLine = s.displayLine := rfl
@[simp] theorem State.withLastLine_lineInFramePosition : (s.withLastLine n).lineInFramePosition = s.lineInFramePosition := rfl
@[simp] theorem State.withLastLine_verticalAdjustRemaining : (s.withLastLine n).verticalAdjustRemaining = s.verticalAdjustRemaining := rfl
@[simp] theorem State.withLastLine_verticalSyncRemaining : (s.withLastLine n).verticalSyncRemaining = s.verticalSyncRemaining := rfl
@[simp] theorem State.withLastLine_firstVisibleLine : (s.withLastLine n).firstVisibleLine = s.firstVisibleLine := rfl
@[simp] theorem State.withLastLine_lastVisibleLine : (s.withLastLine n).lastVisibleLine = n := rfl
@[simp] theorem State.withLastLine_displayActive : (s.withLastLine n).displayActive = s.displayActive := rfl
@[simp] theorem State.withLastLine_memoryAddress : (s.withLastLine n).memoryAddress = s.memoryAddress := rfl
@[simp] theorem State.withLastLine_memoryAddressBackup : (s.withLastLine n).memoryAddressBackup = s.memoryAddressBackup := rfl
@[simp] theorem State.withLastLine_cursorEnabledWindow : (s.withLastLine n).cursorEnabledWindow = s.cursorEnabledWindow := rfl
@[simp] theorem State.withLastLine_cursorDisabledWindow : (s.withLastLine n).cursorDisabledWindow = s.cursorDisabledWindow := rfl
@[simp] theorem State.withLastLine_cursorVisible : (s.withLastLine n).cursorVisible = s.cursorVisible := rfl
@[simp] theorem State.withLastLine_blinkCounter : (s.withLastLine n).blinkCounter = s.blinkCounter := rfl
@[simp] theorem State.withLastLine_visiblePeriodTicks : (s.withLastLine n).visiblePeriodTicks = s.visiblePeriodTicks := rfl
@[simp] theorem State.withLastLine_blankPeriodTicks : (s.withLastLine n).blankPeriodTicks = s.blankPeriodTicks := rfl
@[simp] theorem State.withLastLine_tickScale : (s.withLastLine n).tickScale = s.tickScale := rfl
@[simp] theorem State.withLastLine_accumulatedDeviceTime : (s.withLastLine n).accumulatedDeviceTime = s.accumulatedDeviceTime := rfl
@[simp] theorem State.withLastLine_vram : (s.withLastLine n).vram = s.vram := rfl
@[simp] theorem State.withLastLine_claimedWindow : (s.withLastLine n).claimedWindow = s.claimedWindow := rfl
@[simp] theorem State.withLastLine_screenW : (s.withLastLine n).screenW = s.screenW := rfl
@[simp] theorem State.withLastLine_screenH : (s.withLastLine n).screenH = s.screenH := rfl
@[simp] theorem State.withLastLine_frameCounter : (s.withLastLine n).frameCounter = s.frameCounter := rfl
@[simp] theorem State.withLastLine_events : (s.withLastLine n).events = s.events := rfl
@[simp] theorem State.withLastLine_lifecycle : (s.withLastLine n).lifecycle = s.lifecycle := rfl
@[simp] theorem State.withLastLine_params : (s.withLastLine n).params = s.params := rfl
@[simp] theorem State.withLastLine_pending : (s.withLastLine n).pending = s.pending := rfl
@[simp] theorem State.withLastLine_hostTickScale : (s.withLastLine n).hostTickScale = s.hostTickScale := rfl
@[simp] theorem State.withLastLine_hostWriteBypass : (s.withLastLine n).hostWriteBypass = s.hostWriteBypass := rfl
@[simp] theorem State.withLastLine_reply : (s.withLastLine n).reply = s.reply := rfl
@[simp] theorem State.withLastLine_drawCount : (s.withLastLine n).drawCount = s.drawCount := rfl
@[simp] theorem State.withLastLine_reg (j : BitVec 5) : (s.withLastLine n).reg j = s.reg j := rfl
@[simp] theorem State.withLastLine_memRead (x : Offset) : (s.withLastLine n).memRead x = s.memRead x := rfl

end

/-! ### withDisplay -/

section
variable (s : State) (b : Bool)

@[simp] theorem State.withDisplay_crtc : (s.withDisplay b).crtc = s.crtc := rfl
@[simp] theorem State.withDisplay_crtcIndex : (s.withDisplay b).crtcIndex = s.crtcIndex := rfl
@[simp] theorem State.withDisplay_mode : (s.withDisplay b).mode = s.mode := rfl
@[simp] theorem State.withDisplay_modeExt : (s.withDisplay b).modeExt = s.modeExt := rfl
@[simp] theorem State.withDisplay_status : (s.withDisplay b).status = s.status := rfl
@[simp] theorem State.withDisplay_palette : (s.withDisplay b).palette = s.palette := rfl
@[simp] theorem State.withDisplay_palExtCursor : (s.withDisplay b).palExtCursor = s.palExtCursor := rfl
@[simp] theorem State.withDisplay_palExtEnable : (s.withDisplay b).palExtEnable = s.palExtEnable := rfl
@[simp] theorem State.withDisplay_verticalCounter : (s.withDisplay b).verticalCounter = s.verticalCounter := rfl
@[simp] theorem State.withDisplay_scanlineCounter : (s.withDisplay b).scanlineCounter = s.scanlineCounter := rfl
@[simp] theorem State.withDisplay_displayLine : (s.withDisplay b).displayLine = s.displayLine := rfl
@[simp] theorem State.withDisplay_lineInFramePosition : (s.withDisplay b).lineInFramePosition = s.lineInFramePosition := rfl
@[simp] theorem State.withDisplay_verticalAdjustRemaining : (s.withDisplay b).verticalAdjustRemaining = s.verticalAdjustRemaining := rfl
@[simp] theorem State.withDisplay_verticalSyncRemaining : (s.withDisplay b).verticalSyncRemaining = s.verticalSyncRemaining := rfl
@[simp] theorem State.withDisplay_firstVisibleLine : (s.withDisplay b).firstVisibleLine = s.firstVisibleLine := rfl
@[simp] theorem State.withDisplay_lastVisibleLine : (s.withDisplay b).lastVisibleLine = s.lastVisibleLine := rfl
@[simp] theorem State.withDisplay_displayActive : (s.withDisplay b).displayActive = b := rfl
@[simp] theorem State.withDisplay_memoryAddress : (s.withDisplay b).memoryAddress = s.memoryAddress := rfl
@[simp] theorem State.withDisplay_memoryAddressBackup : (s.withDisplay b).memoryAddressBackup = s.memoryAddressBackup := rfl
@[simp] theorem State.withDisplay_cursorEnabledWindow : (s.withDisplay b).cursorEnabledWindow = s.cursorEnabledWindow := rfl
@[simp] theorem State.withDisplay_cursorDisabledWindow : (s.withDisplay b).cursorDisabledWindow = s.cursorDisabledWindow := rfl
@[simp] theorem State.withDisplay_cursorVisible : (s.withDisplay b).cursorVisible = s.cursorVisible := rfl
@[simp] theorem State.withDisplay_blinkCounter : (s.withDisplay b).blinkCounter = s.blinkCounter := rfl
@[simp] theorem State.withDisplay_visiblePeriodTicks : (s.withDisplay b).visiblePeriodTicks = s.visiblePeriodTicks := rfl
@[simp] theorem State.withDisplay_blankPeriodTicks : (s.withDisplay b).blankPeriodTicks = s.blankPeriodTicks := rfl
@[simp] theorem State.withDisplay_tickScale : (s.withDisplay b).tickScale = s.tickScale := rfl
@[simp] theorem State.withDisplay_accumulatedDeviceTime : (s.withDisplay b).accumulatedDeviceTime = s.accumulatedDeviceTime := rfl
@[simp] theorem State.withDisplay_vram : (s.withDisplay b).vram = s.vram := rfl
@[simp] theorem State.withDisplay_claimedWindow : (s.withDisplay b).claimedWindow = s.claimedWindow := rfl
@[simp] theorem State.withDisplay_screenW : (s.withDisplay b).screenW = s.screenW := rfl
@[simp] theorem State.withDisplay_screenH : (s.withDisplay b).screenH = s.screenH := rfl
@[simp] theorem State.withDisplay_frameCounter : (s.withDisplay b).frameCounter = s.frameCounter := rfl
@[simp] theorem State.withDisplay_events : (s.withDisplay b).events = s.events := rfl
@[simp] theorem State.withDisplay_lifecycle : (s.withDisplay b).lifecycle = s.lifecycle := rfl
@[simp] theorem State.withDisplay_params : (s.withDisplay b).params = s.params := rfl
@[simp] theorem State.withDisplay_pending : (s.withDisplay b).pending = s.pending := rfl
@[simp] theorem State.withDisplay_hostTickScale : (s.withDisplay b).hostTickScale = s.hostTickScale := rfl
@[simp] theorem State.withDisplay_hostWriteBypass : (s.withDisplay b).hostWriteBypass = s.hostWriteBypass := rfl
@[simp] theorem State.withDisplay_reply : (s.withDisplay b).reply = s.reply := rfl
@[simp] theorem State.withDisplay_drawCount : (s.withDisplay b).drawCount = s.drawCount := rfl
@[simp] theorem State.withDisplay_reg (j : BitVec 5) : (s.withDisplay b).reg j = s.reg j := rfl
@[simp] theorem State.withDisplay_memRead (x : Offset) : (s.withDisplay b).memRead x = s.memRead x := rfl

end

/-! ### withAddress -/

section
variable (s : State) (a : CellAddr)

@[simp] theorem State.withAddress_crtc : (s.withAddress a).crtc = s.crtc := rfl
@[simp] theorem State.withAddress_crtcIndex : (s.withAddress a).crtcIndex = s.crtcIndex := rfl
@[simp] theorem State.withAddress_mode : (s.withAddress a).mode = s.mode := rfl
@[simp] theorem State.withAddress_modeExt : (s.withAddress a).modeExt = s.modeExt := rfl
@[simp] theorem State.withAddress_status : (s.withAddress a).status = s.status := rfl
@[simp] theorem State.withAddress_palette : (s.withAddress a).palette = s.palette := rfl
@[simp] theorem State.withAddress_palExtCursor : (s.withAddress a).palExtCursor = s.palExtCursor := rfl
@[simp] theorem State.withAddress_palExtEnable : (s.withAddress a).palExtEnable = s.palExtEnable := rfl
@[simp] theorem State.withAddress_verticalCounter : (s.withAddress a).verticalCounter = s.verticalCounter := rfl
@[simp] theorem State.withAddress_scanlineCounter : (s.withAddress a).scanlineCounter = s.scanlineCounter := rfl
@[simp] theorem State.withAddress_displayLine : (s.withAddress a).displayLine = s.displayLine := rfl
@[simp] theorem State.withAddress_lineInFramePosition : (s.withAddress a).lineInFramePosition = s.lineInFramePosition := rfl
@[simp] theorem State.withAddress_verticalAdjustRemaining : (s.withAddress a).verticalAdjustRemaining = s.verticalAdjustRemaining := rfl
@[simp] theorem State.withAddress_verticalSyncRemaining : (s.withAddress a).verticalSyncRemaining = s.verticalSyncRemaining := rfl
@[simp] theorem State.withAddress_firstVisibleLine : (s.withAddress a).firstVisibleLine = s.firstVisibleLine := rfl
@[simp] theorem State.withAddress_lastVisibleLine : (s.withAddress a).lastVisibleLine = s.lastVisibleLine := rfl
@[simp] theorem State.withAddress_displayActive : (s.withAddress a).displayActive = s.displayActive := rfl
@[simp] theorem State.withAddress_memoryAddress : (s.withAddress a).memoryAddress = a := rfl
@[simp] theorem State.withAddress_memoryAddressBackup : (s.withAddress a).memoryAddressBackup = s.memoryAddressBackup := rfl
@[simp] theorem State.withAddress_cursorEnabledWindow : (s.withAddress a).cursorEnabledWindow = s.cursorEnabledWindow := rfl
@[simp] theorem State.withAddress_cursorDisabledWindow : (s.withAddress a).cursorDisabledWindow = s.cursorDisabledWindow := rfl
@[simp] theorem State.withAddress_cursorVisible : (s.withAddress a).cursorVisible = s.cursorVisible := rfl
@[simp] theorem State.withAddress_blinkCounter : (s.withAddress a).blinkCounter = s.blinkCounter := rfl
@[simp] theorem State.withAddress_visiblePeriodTicks : (s.withAddress a).visiblePeriodTicks = s.visiblePeriodTicks := rfl
@[simp] theorem State.withAddress_blankPeriodTicks : (s.withAddress a).blankPeriodTicks = s.blankPeriodTicks := rfl
@[simp] theorem State.withAddress_tickScale : (s.withAddress a).tickScale = s.tickScale := rfl
@[simp] theorem State.withAddress_accumulatedDeviceTime : (s.withAddress a).accumulatedDeviceTime = s.accumulatedDeviceTime := rfl
@[simp] theorem State.withAddress_vram : (s.withAddress a).vram = s.vram := rfl
@[simp] theorem State.withAddress_claimedWindow : (s.withAddress a).claimedWindow = s.claimedWindow := rfl
@[simp] theorem State.withAddress_screenW : (s.withAddress a).screenW = s.screenW := rfl
@[simp] theorem State.withAddress_screenH : (s.withAddress a).screenH = s.screenH := rfl
@[simp] theorem State.withAddress_frameCounter : (s.withAddress a).frameCounter = s.frameCounter := rfl
@[simp] theorem State.withAddress_events : (s.withAddress a).events = s.events := rfl
@[simp] theorem State.withAddress_lifecycle : (s.withAddress a).lifecycle = s.lifecycle := rfl
@[simp] theorem State.withAddress_params : (s.withAddress a).params = s.params := rfl
@[simp] theorem State.withAddress_pending : (s.withAddress a).pending = s.pending := rfl
@[simp] theorem State.withAddress_hostTickScale : (s.withAddress a).hostTickScale = s.hostTickScale := rfl
@[simp] theorem State.withAddress_hostWriteBypass : (s.withAddress a).hostWriteBypass = s.hostWriteBypass := rfl
@[simp] theorem State.withAddress_reply : (s.withAddress a).reply = s.reply := rfl
@[simp] theorem State.withAddress_drawCount : (s.withAddress a).drawCount = s.drawCount := rfl
@[simp] theorem State.withAddress_reg (j : BitVec 5) : (s.withAddress a).reg j = s.reg j := rfl
@[simp] theorem State.withAddress_memRead (x : Offset) : (s.withAddress a).memRead x = s.memRead x := rfl

end

/-! ### withRowStart -/

section
variable (s : State) (a : CellAddr)

@[simp] theorem State.withRowStart_crtc : (s.withRowStart a).crtc = s.crtc := rfl
@[simp] theorem State.withRowStart_crtcIndex : (s.withRowStart a).crtcIndex = s.crtcIndex := rfl
@[simp] theorem State.withRowStart_mode : (s.withRowStart a).mode = s.mode := rfl
@[simp] theorem State.withRowStart_modeExt : (s.withRowStart a).modeExt = s.modeExt := rfl
@[simp] theorem State.withRowStart_status : (s.withRowStart a).status = s.status := rfl
@[simp] theorem State.withRowStart_palette : (s.withRowStart a).palette = s.palette := rfl
@[simp] theorem State.withRowStart_palExtCursor : (s.withRowStart a).palExtCursor = s.palExtCursor := rfl
@[simp] theorem State.withRowStart_palExtEnable : (s.withRowStart a).palExtEnable = s.palExtEnable := rfl
@[simp] theorem State.withRowStart_verticalCounter : (s.withRowStart a).verticalCounter = s.verticalCounter := rfl
@[simp] theorem State.withRowStart_scanlineCounter : (s.withRowStart a).scanlineCounter = s.scanlineCounter := rfl
@[simp] theorem State.withRowStart_displayLine : (s.withRowStart a).displayLine = s.displayLine := rfl
@[simp] theorem State.withRowStart_lineInFramePosition : (s.withRowStart a).lineInFramePosition = s.lineInFramePosition := rfl
@[simp] theorem State.withRowStart_verticalAdjustRemaining : (s.withRowStart a).verticalAdjustRemaining = s.verticalAdjustRemaining := rfl
@[simp] theorem State.withRowStart_verticalSyncRemaining : (s.withRowStart a).verticalSyncRemaining = s.verticalSyncRemaining := rfl
@[simp] theorem State.withRowStart_firstVisibleLine : (s.withRowStart a).firstVisibleLine = s.firstVisibleLine := rfl
@[simp] theorem State.withRowStart_lastVisibleLine : (s.withRowStart a).lastVisibleLine = s.lastVisibleLine := rfl
@[simp] theorem State.withRowStart_displayActive : (s.withRowStart a).displayActive = s.displayActive := rfl
@[simp] theorem State.withRowStart_memoryAddress : (s.withRowStart a).memoryAddress = s.memoryAddress := rfl
@[simp] theorem State.withRowStart_memoryAddressBackup : (s.withRowStart a).memoryAddressBackup = a := rfl
@[simp] theorem State.withRowStart_cursorEnabledWindow : (s.withRowStart a).cursorEnabledWindow = s.cursorEnabledWindow := rfl
@[simp] theorem State.withRowStart_cursorDisabledWindow : (s.withRowStart a).cursorDisabledWindow = s.cursorDisabledWindow := rfl
@[simp] theorem State.withRowStart_cursorVisible : (s.withRowStart a).cursorVisible = s.cursorVisible := rfl
@[simp] theorem State.withRowStart_blinkCounter : (s.withRowStart a).blinkCounter = s.blinkCounter := rfl
@[simp] theorem State.withRowStart_visiblePeriodTicks : (s.withRowStart a).visiblePeriodTicks = s.visiblePeriodTicks := rfl
@[simp] theorem State.withRowStart_blankPeriodTicks : (s.withRowStart a).blankPeriodTicks = s.blankPeriodTicks := rfl
@[simp] theorem State.withRowStart_tickScale : (s.withRowStart a).tickScale = s.tickScale := rfl
@[simp] theorem State.withRowStart_accumulatedDeviceTime : (s.withRowStart a).accumulatedDeviceTime = s.accumulatedDeviceTime := rfl
@[simp] theorem State.withRowStart_vram : (s.withRowStart a).vram = s.vram := rfl
@[simp] theorem State.withRowStart_claimedWindow : (s.withRowStart a).claimedWindow = s.claimedWindow := rfl
@[simp] theorem State.withRowStart_screenW : (s.withRowStart a).screenW = s.screenW := rfl
@[simp] theorem State.withRowStart_screenH : (s.withRowStart a).screenH = s.screenH := rfl
@[simp] theorem State.withRowStart_frameCounter : (s.withRowStart a).frameCounter = s.frameCounter := rfl
@[simp] theorem State.withRowStart_events : (s.withRowStart a).events = s.events := rfl
@[simp] theorem State.withRowStart_lifecycle : (s.withRowStart a).lifecycle = s.lifecycle := rfl
@[simp] theorem State.withRowStart_params : (s.withRowStart a).params = s.params := rfl
@[simp] theorem State.withRowStart_pending : (s.withRowStart a).pending = s.pending := rfl
@[simp] theorem State.withRowStart_hostTickScale : (s.withRowStart a).hostTickScale = s.hostTickScale := rfl
@[simp] theorem State.withRowStart_hostWriteBypass : (s.withRowStart a).hostWriteBypass = s.hostWriteBypass := rfl
@[simp] theorem State.withRowStart_reply : (s.withRowStart a).reply = s.reply := rfl
@[simp] theorem State.withRowStart_drawCount : (s.withRowStart a).drawCount = s.drawCount := rfl
@[simp] theorem State.withRowStart_reg (j : BitVec 5) : (s.withRowStart a).reg j = s.reg j := rfl
@[simp] theorem State.withRowStart_memRead (x : Offset) : (s.withRowStart a).memRead x = s.memRead x := rfl

end

/-! ### withCursorWindow -/

section
variable (s : State) (b c : Bool)

@[simp] theorem State.withCursorWindow_crtc : (s.withCursorWindow b c).crtc = s.crtc := rfl
@[simp] theorem State.withCursorWindow_crtcIndex : (s.withCursorWindow b c).crtcIndex = s.crtcIndex := rfl
@[simp] theorem State.withCursorWindow_mode : (s.withCursorWindow b c).mode = s.mode := rfl
@[simp] theorem State.withCursorWindow_modeExt : (s.withCursorWindow b c).modeExt = s.modeExt := rfl
@[simp] theorem State.withCursorWindow_status : (s.withCursorWindow b c).status = s.status := rfl
@[simp] theorem State.withCursorWindow_palette : (s.withCursorWindow b c).palette = s.palette := rfl
@[simp] theorem State.withCursorWindow_palExtCursor : (s.withCursorWindow b c).palExtCursor = s.palExtCursor := rfl
@[simp] theorem State.withCursorWindow_palExtEnable : (s.withCursorWindow b c).palExtEnable = s.palExtEnable := rfl
@[simp] theorem State.withCursorWindow_verticalCounter : (s.withCursorWindow b c).verticalCounter = s.verticalCounter := rfl
@[simp] theorem State.withCursorWindow_scanlineCounter : (s.withCursorWindow b c).scanlineCounter = s.scanlineCounter := rfl
@[simp] theorem State.withCursorWindow_displayLine : (s.withCursorWindow b c).displayLine = s.displayLine := rfl
@[simp] theorem State.withCursorWindow_lineInFramePosition : (s.withCursorWindow b c).lineInFramePosition = s.lineInFramePosition := rfl
@[simp] theorem State.withCursorWindow_verticalAdjustRemaining : (s.withCursorWindow b c).verticalAdjustRemaining = s.verticalAdjustRemaining := rfl
@[simp] theorem State.withCursorWindow_verticalSyncRemaining : (s.withCursorWindow b c).verticalSyncRemaining = s.verticalSyncRemaining := rfl
@[simp] theorem State.withCursorWindow_firstVisibleLine : (s.withCursorWindow b c).firstVisibleLine = s.firstVisibleLine := rfl
@[simp] theorem State.withCursorWindow_lastVisibleLine : (s.withCursorWindow b c).lastVisibleLine = s.lastVisibleLine := rfl
@[simp] theorem State.withCursorWindow_displayActive : (s.withCursorWindow b c).displayActive = s.displayActive := rfl
@[simp] theorem State.withCursorWindow_memoryAddress : (s.withCursorWindow b c).memoryAddress = s.memoryAddress := rfl
@[simp] theorem State.withCursorWindow_memoryAddressBackup : (s.withCursorWindow b c).memoryAddressBackup = s.memoryAddressBackup := rfl
@[simp] theorem State.withCursorWindow_cursorEnabledWindow : (s.withCursorWindow b c).cursorEnabledWindow = b := rfl
@[simp] theorem State.withCursorWindow_cursorDisabledWindow : (s.withCursorWindow b c).cursorDisabledWindow = c := rfl
@[simp] theorem State.withCursorWindow_cursorVisible : (s.withCursorWindow b c).cursorVisible = s.cursorVisible := rfl
@[simp] theorem State.withCursorWindow_blinkCounter : (s.withCursorWindow b c).blinkCounter = s.blinkCounter := rfl
@[simp] theorem State.withCursorWindow_visiblePeriodTicks : (s.withCursorWindow b c).visiblePeriodTicks = s.visiblePeriodTicks := rfl
@[simp] theorem State.withCursorWindow_blankPeriodTicks : (s.withCursorWindow b c).blankPeriodTicks = s.blankPeriodTicks := rfl
@[simp] theorem State.withCursorWindow_tickScale : (s.withCursorWindow b c).tickScale = s.tickScale := rfl
@[simp] theorem State.withCursorWindow_accumulatedDeviceTime : (s.withCursorWindow b c).accumulatedDeviceTime = s.accumulatedDeviceTime := rfl
@[simp] theorem State.withCursorWindow_vram : (s.withCursorWindow b c).vram = s.vram := rfl
@[simp] theorem State.withCursorWindow_claimedWindow : (s.withCursorWindow b c).claimedWindow = s.claimedWindow := rfl
@[simp] theorem State.withCursorWindow_screenW : (s.withCursorWindow b c).screenW = s.screenW := rfl
@[simp] theorem State.withCursorWindow_screenH : (s.withCursorWindow b c).screenH = s.screenH := rfl
@[simp] theorem State.withCursorWindow_frameCounter : (s.withCursorWindow b c).frameCounter = s.frameCounter := rfl
@[simp] theorem State.withCursorWindow_events : (s.withCursorWindow b c).events = s.events := rfl
@[simp] theorem State.withCursorWindow_lifecycle : (s.withCursorWindow b c).lifecycle = s.lifecycle := rfl
@[simp] theorem State.withCursorWindow_params : (s.withCursorWindow b c).params = s.params := rfl
@[simp] theorem State.withCursorWindow_pending : (s.withCursorWindow b c).pending = s.pending := rfl
@[simp] theorem State.withCursorWindow_hostTickScale : (s.withCursorWindow b c).hostTickScale = s.hostTickScale := rfl
@[simp] theorem State.withCursorWindow_hostWriteBypass : (s.withCursorWindow b c).hostWriteBypass = s.hostWriteBypass := rfl
@[simp] theorem State.withCursorWindow_reply : (s.withCursorWindow b c).reply = s.reply := rfl
@[simp] theorem State.withCursorWindow_drawCount : (s.withCursorWindow b c).drawCount = s.drawCount := rfl
@[simp] theorem State.withCursorWindow_reg (j : BitVec 5) : (s.withCursorWindow b c).reg j = s.reg j := rfl
@[simp] theorem State.withCursorWindow_memRead (x : Offset) : (s.withCursorWindow b c).memRead x = s.memRead x := rfl

end

/-! ### withCursorVisible -/

section
variable (s : State) (b : Bool)

@[simp] theorem State.withCursorVisible_crtc : (s.withCursorVisible b).crtc = s.crtc := rfl
@[simp] theorem State.withCursorVisible_crtcIndex : (s.withCursorVisible b).crtcIndex = s.crtcIndex := rfl
@[simp] theorem State.withCursorVisible_mode : (s.withCursorVisible b).mode = s.mode := rfl
@[simp] theorem State.withCursorVisible_modeExt : (s.withCursorVisible b).modeExt = s.modeExt := rfl
@[simp] theorem State.withCursorVisible_status : (s.withCursorVisible b).status = s.status := rfl
@[simp] theorem State.withCursorVisible_palette : (s.withCursorVisible b).palette = s.palette := rfl
@[simp] theorem State.withCursorVisible_palExtCursor : (s.withCursorVisible b).palExtCursor = s.palExtCursor := rfl
@[simp] theorem State.withCursorVisible_palExtEnable : (s.withCursorVisible b).palExtEnable = s.palExtEnable := rfl
@[simp] theorem State.withCursorVisible_verticalCounter : (s.withCursorVisible b).verticalCounter = s.verticalCounter := rfl
@[simp] theorem State.withCursorVisible_scanlineCounter : (s.withCursorVisible b).scanlineCounter = s.scanlineCounter := rfl
@[simp] theorem State.withCursorVisible_displayLine : (s.withCursorVisible b).displayLine = s.displayLine := rfl
@[simp] theorem State.withCursorVisible_lineInFramePosition : (s.withCursorVisible b).lineInFramePosition = s.lineInFramePosition := rfl
@[simp] theorem State.withCursorVisible_verticalAdjustRemaining : (s.withCursorVisible b).verticalAdjustRemaining = s.verticalAdjustRemaining := rfl
@[simp] theorem State.withCursorVisible_verticalSyncRemaining : (s.withCursorVisible b).verticalSyncRemaining = s.verticalSyncRemaining := rfl
@[simp] theorem State.withCursorVisible_firstVisibleLine : (s.withCursorVisible b).firstVisibleLine = s.firstVisibleLine := rfl
@[simp] theorem State.withCursorVisible_lastVisibleLine : (s.withCursorVisible b).lastVisibleLine = s.lastVisibleLine := rfl
@[simp] theorem State.withCursorVisible_displayActive : (s.withCursorVisible b).displayActive = s.displayActive := rfl
@[simp] theorem State.withCursorVisible_memoryAddress : (s.withCursorVisible b).memoryAddress = s.memoryAddress := rfl
@[simp] theorem State.withCursorVisible_memoryAddressBackup : (s.withCursorVisible b).memoryAddressBackup = s.memoryAddressBackup := rfl
@[simp] theorem State.withCursorVisible_cursorEnabledWindow : (s.withCursorVisible b).cursorEnabledWindow = s.cursorEnabledWindow := rfl
@[simp] theorem State.withCursorVisible_cursorDisabledWindow : (s.withCursorVisible b).cursorDisabledWindow = s.cursorDisabledWindow := rfl
@[simp] theorem State.withCursorVisible_cursorVisible : (s.withCursorVisible b).cursorVisible = b := rfl
@[simp] theorem State.withCursorVisible_blinkCounter : (s.withCursorVisible b).blinkCounter = s.blinkCounter := rfl
@[simp] theorem State.withCursorVisible_visiblePeriodTicks : (s.withCursorVisible b).visiblePeriodTicks = s.visiblePeriodTicks := rfl
@[simp] theorem State.withCursorVisible_blankPeriodTicks : (s.withCursorVisible b).blankPeriodTicks = s.blankPeriodTicks := rfl
@[simp] theorem State.withCursorVisible_tickScale : (s.withCursorVisible b).tickScale = s.tickScale := rfl
@[simp] theorem State.withCursorVisible_accumulatedDeviceTime : (s.withCursorVisible b).accumulatedDeviceTime = s.accumulatedDeviceTime := rfl
@[simp] theorem State.withCursorVisible_vram : (s.withCursorVisible b).vram = s.vram := rfl
@[simp] theorem State.withCursorVisible_claimedWindow : (s.withCursorVisible b).claimedWindow = s.claimedWindow := rfl
@[simp] theorem State.withCursorVisible_screenW : (s.withCursorVisible b).screenW = s.screenW := rfl
@[simp] theorem State.withCursorVisible_screenH : (s.withCursorVisible b).screenH = s.screenH := rfl
@[simp] theorem State.withCursorVisible_frameCounter : (s.withCursorVisible b).frameCounter = s.frameCounter := rfl
@[simp] theorem State.withCursorVisible_events : (s.withCursorVisible b).events = s.events := rfl
@[simp] theorem State.withCursorVisible_lifecycle : (s.withCursorVisible b).lifecycle = s.lifecycle := rfl
@[simp] theorem State.withCursorVisible_params : (s.withCursorVisible b).params = s.params := rfl
@[simp] theorem State.withCursorVisible_pending : (s.withCursorVisible b).pending = s.pending := rfl
@[simp] theorem State.withCursorVisible_hostTickScale : (s.withCursorVisible b).hostTickScale = s.hostTickScale := rfl
@[simp] theorem State.withCursorVisible_hostWriteBypass : (s.withCursorVisible b).hostWriteBypass = s.hostWriteBypass := rfl
@[simp] theorem State.withCursorVisible_reply : (s.withCursorVisible b).reply = s.reply := rfl
@[simp] theorem State.withCursorVisible_drawCount : (s.withCursorVisible b).drawCount = s.drawCount := rfl
@[simp] theorem State.withCursorVisible_reg (j : BitVec 5) : (s.withCursorVisible b).reg j = s.reg j := rfl
@[simp] theorem State.withCursorVisible_memRead (x : Offset) : (s.withCursorVisible b).memRead x = s.memRead x := rfl

end

/-! ### withBlink -/

section
variable (s : State) (n : BitVec 32)

@[simp] theorem State.withBlink_crtc : (s.withBlink n).crtc = s.crtc := rfl
@[simp] theorem State.withBlink_crtcIndex : (s.withBlink n).crtcIndex = s.crtcIndex := rfl
@[simp] theorem State.withBlink_mode : (s.withBlink n).mode = s.mode := rfl
@[simp] theorem State.withBlink_modeExt : (s.withBlink n).modeExt = s.modeExt := rfl
@[simp] theorem State.withBlink_status : (s.withBlink n).status = s.status := rfl
@[simp] theorem State.withBlink_palette : (s.withBlink n).palette = s.palette := rfl
@[simp] theorem State.withBlink_palExtCursor : (s.withBlink n).palExtCursor = s.palExtCursor := rfl
@[simp] theorem State.withBlink_palExtEnable : (s.withBlink n).palExtEnable = s.palExtEnable := rfl
@[simp] theorem State.withBlink_verticalCounter : (s.withBlink n).verticalCounter = s.verticalCounter := rfl
@[simp] theorem State.withBlink_scanlineCounter : (s.withBlink n).scanlineCounter = s.scanlineCounter := rfl
@[simp] theorem State.withBlink_displayLine : (s.withBlink n).displayLine = s.displayLine := rfl
@[simp] theorem State.withBlink_lineInFramePosition : (s.withBlink n).lineInFramePosition = s.lineInFramePosition := rfl
@[simp] theorem State.withBlink_verticalAdjustRemaining : (s.withBlink n).verticalAdjustRemaining = s.verticalAdjustRemaining := rfl
@[simp] theorem State.withBlink_verticalSyncRemaining : (s.withBlink n).verticalSyncRemaining = s.verticalSyncRemaining := rfl
@[simp] theorem State.withBlink_firstVisibleLine : (s.withBlink n).firstVisibleLine = s.firstVisibleLine := rfl
@[simp] theorem State.withBlink_lastVisibleLine : (s.withBlink n).lastVisibleLine = s.lastVisibleLine := rfl
@[simp] theorem State.withBlink_displayActive : (s.withBlink n).displayActive = s.displayActive := rfl
@[simp] theorem State.withBlink_memoryAddress : (s.withBlink n).memoryAddress = s.memoryAddress := rfl
@[simp] theorem State.withBlink_memoryAddressBackup : (s.withBlink n).memoryAddressBackup = s.memoryAddressBackup := rfl
@[simp] theorem State.withBlink_cursorEnabledWindow : (s.withBlink n).cursorEnabledWindow = s.cursorEnabledWindow := rfl
@[simp] theorem State.withBlink_cursorDisabledWindow : (s.withBlink n).cursorDisabledWindow = s.cursorDisabledWindow := rfl
@[simp] theorem State.withBlink_cursorVisible : (s.withBlink n).cursorVisible = s.cursorVisible := rfl
@[simp] theorem State.withBlink_blinkCounter : (s.withBlink n).blinkCounter = n := rfl
@[simp] theorem State.withBlink_visiblePeriodTicks : (s.withBlink n).visiblePeriodTicks = s.visiblePeriodTicks := rfl
@[simp] theorem State.withBlink_blankPeriodTicks : (s.withBlink n).blankPeriodTicks = s.blankPeriodTicks := rfl
@[simp] theorem State.withBlink_tickScale : (s.withBlink n).tickScale = s.tickScale := rfl
@[simp] theorem State.withBlink_accumulatedDeviceTime : (s.withBlink n).accumulatedDeviceTime = s.accumulatedDeviceTime := rfl
@[simp] theorem State.withBlink_vram : (s.withBlink n).vram = s.vram := rfl
@[simp] theorem State.withBlink_claimedWindow : (s.withBlink n).claimedWindow = s.claimedWindow := rfl
@[simp] theorem State.withBlink_screenW : (s.withBlink n).screenW = s.screenW := rfl
@[simp] theorem State.withBlink_screenH : (s.withBlink n).screenH = s.screenH := rfl
@[simp] theorem State.withBlink_frameCounter : (s.withBlink n).frameCounter = s.frameCounter := rfl
@[simp] theorem State.withBlink_events : (s.withBlink n).events = s.events := rfl
@[simp] theorem State.withBlink_lifecycle : (s.withBlink n).lifecycle = s.lifecycle := rfl
@[simp] theorem State.withBlink_params : (s.withBlink n).params = s.params := rfl
@[simp] theorem State.withBlink_pending : (s.withBlink n).pending = s.pending := rfl
@[simp] theorem State.withBlink_hostTickScale : (s.withBlink n).hostTickScale = s.hostTickScale := rfl
@[simp] theorem State.withBlink_hostWriteBypass : (s.withBlink n).hostWriteBypass = s.hostWriteBypass := rfl
@[simp] theorem State.withBlink_reply : (s.withBlink n).reply = s.reply := rfl
@[simp] theorem State.withBlink_drawCount : (s.withBlink n).drawCount = s.drawCount := rfl
@[simp] theorem State.withBlink_reg (j : BitVec 5) : (s.withBlink n).reg j = s.reg j := rfl
@[simp] theorem State.withBlink_memRead (x : Offset) : (s.withBlink n).memRead x = s.memRead x := rfl

end

/-! ### withFrame -/

section
variable (s : State) (n : BitVec 32)

@[simp] theorem State.withFrame_crtc : (s.withFrame n).crtc = s.crtc := rfl
@[simp] theorem State.withFrame_crtcIndex : (s.withFrame n).crtcIndex = s.crtcIndex := rfl
@[simp] theorem State.withFrame_mode : (s.withFrame n).mode = s.mode := rfl
@[simp] theorem State.withFrame_modeExt : (s.withFrame n).modeExt = s.modeExt := rfl
@[simp] theorem State.withFrame_status : (s.withFrame n).status = s.status := rfl
@[simp] theorem State.withFrame_palette : (s.withFrame n).palette = s.palette := rfl
@[simp] theorem State.withFrame_palExtCursor : (s.withFrame n).palExtCursor = s.palExtCursor := rfl
@[simp] theorem State.withFrame_palExtEnable : (s.withFrame n).palExtEnable = s.palExtEnable := rfl
@[simp] theorem State.withFrame_verticalCounter : (s.withFrame n).verticalCounter = s.verticalCounter := rfl
@[simp] theorem State.withFrame_scanlineCounter : (s.withFrame n).scanlineCounter = s.scanlineCounter := rfl
@[simp] theorem State.withFrame_displayLine : (s.withFrame n).displayLine = s.displayLine := rfl
@[simp] theorem State.withFrame_lineInFramePosition : (s.withFrame n).lineInFramePosition = s.lineInFramePosition := rfl
@[simp] theorem State.withFrame_verticalAdjustRemaining : (s.withFrame n).verticalAdjustRemaining = s.verticalAdjustRemaining := rfl
@[simp] theorem State.withFrame_verticalSyncRemaining : (s.withFrame n).verticalSyncRemaining = s.verticalSyncRemaining := rfl
@[simp] theorem State.withFrame_firstVisibleLine : (s.withFrame n).firstVisibleLine = s.firstVisibleLine := rfl
@[simp] theorem State.withFrame_lastVisibleLine : (s.withFrame n).lastVisibleLine = s.lastVisibleLine := rfl
@[simp] theorem State.withFrame_displayActive : (s.withFrame n).displayActive = s.displayActive := rfl
@[simp] theorem State.withFrame_memoryAddress : (s.withFrame n).memoryAddress = s.memoryAddress := rfl
@[simp] theorem State.withFrame_memoryAddressBackup : (s.withFrame n).memoryAddressBackup = s.memoryAddressBackup := rfl
@[simp] theorem State.withFrame_cursorEnabledWindow : (s.withFrame n).cursorEnabledWindow = s.cursorEnabledWindow := rfl
@[simp] theorem State.withFrame_cursorDisabledWindow : (s.withFrame n).cursorDisabledWindow = s.cursorDisabledWindow := rfl
@[simp] theorem State.withFrame_cursorVisible : (s.withFrame n).cursorVisible = s.cursorVisible := rfl
@[simp] theorem State.withFrame_blinkCounter : (s.withFrame n).blinkCounter = s.blinkCounter := rfl
@[simp] theorem State.withFrame_visiblePeriodTicks : (s.withFrame n).visiblePeriodTicks = s.visiblePeriodTicks := rfl
@[simp] theorem State.withFrame_blankPeriodTicks : (s.withFrame n).blankPeriodTicks = s.blankPeriodTicks := rfl
@[simp] theorem State.withFrame_tickScale : (s.withFrame n).tickScale = s.tickScale := rfl
@[simp] theorem State.withFrame_accumulatedDeviceTime : (s.withFrame n).accumulatedDeviceTime = s.accumulatedDeviceTime := rfl
@[simp] theorem State.withFrame_vram : (s.withFrame n).vram = s.vram := rfl
@[simp] theorem State.withFrame_claimedWindow : (s.withFrame n).claimedWindow = s.claimedWindow := rfl
@[simp] theorem State.withFrame_screenW : (s.withFrame n).screenW = s.screenW := rfl
@[simp] theorem State.withFrame_screenH : (s.withFrame n).screenH = s.screenH := rfl
@[simp] theorem State.withFrame_frameCounter : (s.withFrame n).frameCounter = n := rfl
@[simp] theorem State.withFrame_events : (s.withFrame n).events = s.events := rfl
@[simp] theorem State.withFrame_lifecycle : (s.withFrame n).lifecycle = s.lifecycle := rfl
@[simp] theorem State.withFrame_params : (s.withFrame n).params = s.params := rfl
@[simp] theorem State.withFrame_pending : (s.withFrame n).pending = s.pending := rfl
@[simp] theorem State.withFrame_hostTickScale : (s.withFrame n).hostTickScale = s.hostTickScale := rfl
@[simp] theorem State.withFrame_hostWriteBypass : (s.withFrame n).hostWriteBypass = s.hostWriteBypass := rfl
@[simp] theorem State.withFrame_reply : (s.withFrame n).reply = s.reply := rfl
@[simp] theorem State.withFrame_drawCount : (s.withFrame n).drawCount = s.drawCount := rfl
@[simp] theorem State.withFrame_reg (j : BitVec 5) : (s.withFrame n).reg j = s.reg j := rfl
@[simp] theorem State.withFrame_memRead (x : Offset) : (s.withFrame n).memRead x = s.memRead x := rfl

end

/-! ### withScreen -/

section
variable (s : State) (w h : Int)

@[simp] theorem State.withScreen_crtc : (s.withScreen w h).crtc = s.crtc := rfl
@[simp] theorem State.withScreen_crtcIndex : (s.withScreen w h).crtcIndex = s.crtcIndex := rfl
@[simp] theorem State.withScreen_mode : (s.withScreen w h).mode = s.mode := rfl
@[simp] theorem State.withScreen_modeExt : (s.withScreen w h).modeExt = s.modeExt := rfl
@[simp] theorem State.withScreen_status : (s.withScreen w h).status = s.status := rfl
@[simp] theorem State.withScreen_palette : (s.withScreen w h).palette = s.palette := rfl
@[simp] theorem State.withScreen_palExtCursor : (s.withScreen w h).palExtCursor = s.palExtCursor := rfl
@[simp] theorem State.withScreen_palExtEnable : (s.withScreen w h).palExtEnable = s.palExtEnable := rfl
@[simp] theorem State.withScreen_verticalCounter : (s.withScreen w h).verticalCounter = s.verticalCounter := rfl
@[simp] theorem State.withScreen_scanlineCounter : (s.withScreen w h).scanlineCounter = s.scanlineCounter := rfl
@[simp] theorem State.withScreen_displayLine : (s.withScreen w h).displayLine = s.displayLine := rfl
@[simp] theorem State.withScreen_lineInFramePosition : (s.withScreen w h).lineInFramePosition = s.lineInFramePosition := rfl
@[simp] theorem State.withScreen_verticalAdjustRemaining : (s.withScreen w h).verticalAdjustRemaining = s.verticalAdjustRemaining := rfl
@[simp] theorem State.withScreen_verticalSyncRemaining : (s.withScreen w h).verticalSyncRemaining = s.verticalSyncRemaining := rfl
@[simp] theorem State.withScreen_firstVisibleLine : (s.withScreen w h).firstVisibleLine = s.firstVisibleLine := rfl
@[simp] theorem State.withScreen_lastVisibleLine : (s.withScreen w h).lastVisibleLine = s.lastVisibleLine := rfl
@[simp] theorem State.withScreen_displayActive : (s.withScreen w h).displayActive = s.displayActive := rfl
@[simp] theorem State.withScreen_memoryAddress : (s.withScreen w h).memoryAddress = s.memoryAddress := rfl
@[simp] theorem State.withScreen_memoryAddressBackup : (s.withScreen w h).memoryAddressBackup = s.memoryAddressBackup := rfl
@[simp] theorem State.withScreen_cursorEnabledWindow : (s.withScreen w h).cursorEnabledWindow = s.cursorEnabledWindow := rfl
@[simp] theorem State.withScreen_cursorDisabledWindow : (s.withScreen w h).cursorDisabledWindow = s.cursorDisabledWindow := rfl
@[simp] theorem State.withScreen_cursorVisible : (s.withScreen w h).cursorVisible = s.cursorVisible := rfl
@[simp] theorem State.withScreen_blinkCounter : (s.withScreen w h).blinkCounter = s.blinkCounter := rfl
@[simp] theorem State.withScreen_visiblePeriodTicks : (s.withScreen w h).visiblePeriodTicks = s.visiblePeriodTicks := rfl
@[simp] theorem State.withScreen_blankPeriodTicks : (s.withScreen w h).blankPeriodTicks = s.blankPeriodTicks := rfl
@[simp] theorem State.withScreen_tickScale : (s.withScreen w h).tickScale = s.tickScale := rfl
@[simp] theorem State.withScreen_accumulatedDeviceTime : (s.withScreen w h).accumulatedDeviceTime = s.accumulatedDeviceTime := rfl
@[simp] theorem State.withScreen_vram : (s.withScreen w h).vram = s.vram := rfl
@[simp] theorem State.withScreen_claimedWindow : (s.withScreen w h).claimedWindow = s.claimedWindow := rfl
@[simp] theorem State.withScreen_screenW : (s.withScreen w h).screenW = w := rfl
@[simp] theorem State.withScreen_screenH : (s.withScreen w h).screenH = h := rfl
@[simp] theorem State.withScreen_frameCounter : (s.withScreen w h).frameCounter = s.frameCounter := rfl
@[simp] theorem State.withScreen_events : (s.withScreen w h).events = s.events := rfl
@[simp] theorem State.withScreen_lifecycle : (s.withScreen w h).lifecycle = s.lifecycle := rfl
@[simp] theorem State.withScreen_params : (s.withScreen w h).params = s.params := rfl
@[simp] theorem State.withScreen_pending : (s.withScreen w h).pending = s.pending := rfl
@[simp] theorem State.withScreen_hostTickScale : (s.withScreen w h).hostTickScale = s.hostTickScale := rfl
@[simp] theorem State.withScreen_hostWriteBypass : (s.withScreen w h).hostWriteBypass = s.hostWriteBypass := rfl
@[simp] theorem State.withScreen_reply : (s.withScreen w h).reply = s.reply := rfl
@[simp] theorem State.withScreen_drawCount : (s.withScreen w h).drawCount = s.drawCount := rfl
@[simp] theorem State.withScreen_reg (j : BitVec 5) : (s.withScreen w h).reg j = s.reg j := rfl
@[simp] theorem State.withScreen_memRead (x : Offset) : (s.withScreen w h).memRead x = s.memRead x := rfl

end

/-! ### withPeriods -/

section
variable (s : State) (p q : Nat)

@[simp] theorem State.withPeriods_crtc : (s.withPeriods p q).crtc = s.crtc := rfl
@[simp] theorem State.withPeriods_crtcIndex : (s.withPeriods p q).crtcIndex = s.crtcIndex := rfl
@[simp] theorem State.withPeriods_mode : (s.withPeriods p q).mode = s.mode := rfl
@[simp] theorem State.withPeriods_modeExt : (s.withPeriods p q).modeExt = s.modeExt := rfl
@[simp] theorem State.withPeriods_status : (s.withPeriods p q).status = s.status := rfl
@[simp] theorem State.withPeriods_palette : (s.withPeriods p q).palette = s.palette := rfl
@[simp] theorem State.withPeriods_palExtCursor : (s.withPeriods p q).palExtCursor = s.palExtCursor := rfl
@[simp] theorem State.withPeriods_palExtEnable : (s.withPeriods p q).palExtEnable = s.palExtEnable := rfl
@[simp] theorem State.withPeriods_verticalCounter : (s.withPeriods p q).verticalCounter = s.verticalCounter := rfl
@[simp] theorem State.withPeriods_scanlineCounter : (s.withPeriods p q).scanlineCounter = s.scanlineCounter := rfl
@[simp] theorem State.withPeriods_displayLine : (s.withPeriods p q).displayLine = s.displayLine := rfl
@[simp] theorem State.withPeriods_lineInFramePosition : (s.withPeriods p q).lineInFramePosition = s.lineInFramePosition := rfl
@[simp] theorem State.withPeriods_verticalAdjustRemaining : (s.withPeriods p q).verticalAdjustRemaining = s.verticalAdjustRemaining := rfl
@[simp] theorem State.withPeriods_verticalSyncRemaining : (s.withPeriods p q).verticalSyncRemaining = s.verticalSyncRemaining := rfl
@[simp] theorem State.withPeriods_firstVisibleLine : (s.withPeriods p q).firstVisibleLine = s.firstVisibleLine := rfl
@[simp] theorem State.withPeriods_lastVisibleLine : (s.withPeriods p q).lastVisibleLine = s.lastVisibleLine := rfl
@[simp] theorem State.withPeriods_displayActive : (s.withPeriods p q).displayActive = s.displayActive := rfl
@[simp] theorem State.withPeriods_memoryAddress : (s.withPeriods p q).memoryAddress = s.memoryAddress := rfl
@[simp] theorem State.withPeriods_memoryAddressBackup : (s.withPeriods p q).memoryAddressBackup = s.memoryAddressBackup := rfl
@[simp] theorem State.withPeriods_cursorEnabledWindow : (s.withPeriods p q).cursorEnabledWindow = s.cursorEnabledWindow := rfl
@[simp] theorem State.withPeriods_cursorDisabledWindow : (s.withPeriods p q).cursorDisabledWindow = s.cursorDisabledWindow := rfl
@[simp] theorem State.withPeriods_cursorVisible : (s.withPeriods p q).cursorVisible = s.cursorVisible := rfl
@[simp] theorem State.withPeriods_blinkCounter : (s.withPeriods p q).blinkCounter = s.blinkCounter := rfl
@[simp] theorem State.withPeriods_visiblePeriodTicks : (s.withPeriods p q).visiblePeriodTicks = p := rfl
@[simp] theorem State.withPeriods_blankPeriodTicks : (s.withPeriods p q).blankPeriodTicks = q := rfl
@[simp] theorem State.withPeriods_tickScale : (s.withPeriods p q).tickScale = s.tickScale := rfl
@[simp] theorem State.withPeriods_accumulatedDeviceTime : (s.withPeriods p q).accumulatedDeviceTime = s.accumulatedDeviceTime := rfl
@[simp] theorem State.withPeriods_vram : (s.withPeriods p q).vram = s.vram := rfl
@[simp] theorem State.withPeriods_claimedWindow : (s.withPeriods p q).claimedWindow = s.claimedWindow := rfl
@[simp] theorem State.withPeriods_screenW : (s.withPeriods p q).screenW = s.screenW := rfl
@[simp] theorem State.withPeriods_screenH : (s.withPeriods p q).screenH = s.screenH := rfl
@[simp] theorem State.withPeriods_frameCounter : (s.withPeriods p q).frameCounter = s.frameCounter := rfl
@[simp] theorem State.withPeriods_events : (s.withPeriods p q).events = s.events := rfl
@[simp] theorem State.withPeriods_lifecycle : (s.withPeriods p q).lifecycle = s.lifecycle := rfl
@[simp] theorem State.withPeriods_params : (s.withPeriods p q).params = s.params := rfl
@[simp] theorem State.withPeriods_pending : (s.withPeriods p q).pending = s.pending := rfl
@[simp] theorem State.withPeriods_hostTickScale : (s.withPeriods p q).hostTickScale = s.hostTickScale := rfl
@[simp] theorem State.withPeriods_hostWriteBypass : (s.withPeriods p q).hostWriteBypass = s.hostWriteBypass := rfl
@[simp] theorem State.withPeriods_reply : (s.withPeriods p q).reply = s.reply := rfl
@[simp] theorem State.withPeriods_drawCount : (s.withPeriods p q).drawCount = s.drawCount := rfl
@[simp] theorem State.withPeriods_reg (j : BitVec 5) : (s.withPeriods p q).reg j = s.reg j := rfl
@[simp] theorem State.withPeriods_memRead (x : Offset) : (s.withPeriods p q).memRead x = s.memRead x := rfl

end

/-! ### withScale -/

section
variable (s : State) (n : Nat)

@[simp] theorem State.withScale_crtc : (s.withScale n).crtc = s.crtc := rfl
@[simp] theorem State.withScale_crtcIndex : (s.withScale n).crtcIndex = s.crtcIndex := rfl
@[simp] theorem State.withScale_mode : (s.withScale n).mode = s.mode := rfl
@[simp] theorem State.withScale_modeExt : (s.withScale n).modeExt = s.modeExt := rfl
@[simp] theorem State.withScale_status : (s.withScale n).status = s.status := rfl
@[simp] theorem State.withScale_palette : (s.withScale n).palette = s.palette := rfl
@[simp] theorem State.withScale_palExtCursor : (s.withScale n).palExtCursor = s.palExtCursor := rfl
@[simp] theorem State.withScale_palExtEnable : (s.withScale n).palExtEnable = s.palExtEnable := rfl
@[simp] theorem State.withScale_verticalCounter : (s.withScale n).verticalCounter = s.verticalCounter := rfl
@[simp] theorem State.withScale_scanlineCounter : (s.withScale n).scanlineCounter = s.scanlineCounter := rfl
@[simp] theorem State.withScale_displayLine : (s.withScale n).displayLine = s.displayLine := rfl
@[simp] theorem State.withScale_lineInFramePosition : (s.withScale n).lineInFramePosition = s.lineInFramePosition := rfl
@[simp] theorem State.withScale_verticalAdjustRemaining : (s.withScale n).verticalAdjustRemaining = s.verticalAdjustRemaining := rfl
@[simp] theorem State.withScale_verticalSyncRemaining : (s.withScale n).verticalSyncRemaining = s.verticalSyncRemaining := rfl
@[simp] theorem State.withScale_firstVisibleLine : (s.withScale n).firstVisibleLine = s.firstVisibleLine := rfl
@[simp] theorem State.withScale_lastVisibleLine : (s.withScale n).lastVisibleLine = s.lastVisibleLine := rfl
@[simp] theorem State.withScale_displayActive : (s.withScale n).displayActive = s.displayActive := rfl
@[simp] theorem State.withScale_memoryAddress : (s.withScale n).memoryAddress = s.memoryAddress := rfl
@[simp] theorem State.withScale_memoryAddressBackup : (s.withScale n).memoryAddressBackup = s.memoryAddressBackup := rfl
@[simp] theorem State.withScale_cursorEnabledWindow : (s.withScale n).cursorEnabledWindow = s.cursorEnabledWindow := rfl
@[simp] theorem State.withScale_cursorDisabledWindow : (s.withScale n).cursorDisabledWindow = s.cursorDisabledWindow := rfl
@[simp] theorem State.withScale_cursorVisible : (s.withScale n).cursorVisible = s.cursorVisible := rfl
@[simp] theorem State.withScale_blinkCounter : (s.withScale n).blinkCounter = s.blinkCounter := rfl
@[simp] theorem State.withScale_visiblePeriodTicks : (s.withScale n).visiblePeriodTicks = s.visiblePeriodTicks := rfl
@[simp] theorem State.withScale_blankPeriodTicks : (s.withScale n).blankPeriodTicks = s.blankPeriodTicks := rfl
@[simp] theorem State.withScale_tickScale : (s.withScale n).tickScale = n := rfl
@[simp] theorem State.withScale_accumulatedDeviceTime : (s.withScale n).accumulatedDeviceTime = s.accumulatedDeviceTime := rfl
@[simp] theorem State.withScale_vram : (s.withScale n).vram = s.vram := rfl
@[simp] theorem State.withScale_claimedWindow : (s.withScale n).claimedWindow = s.claimedWindow := rfl
@[simp] theorem State.withScale_screenW : (s.withScale n).screenW = s.screenW := rfl
@[simp] theorem State.withScale_screenH : (s.withScale n).screenH = s.screenH := rfl
@[simp] theorem State.withScale_frameCounter : (s.withScale n).frameCounter = s.frameCounter := rfl
@[simp] theorem State.withScale_events : (s.withScale n).events = s.events := rfl
@[simp] theorem State.withScale_lifecycle : (s.withScale n).lifecycle = s.lifecycle := rfl
@[simp] theorem State.withScale_params : (s.withScale n).params = s.params := rfl
@[simp] theorem State.withScale_pending : (s.withScale n).pending = s.pending := rfl
@[simp] theorem State.withScale_hostTickScale : (s.withScale n).hostTickScale = s.hostTickScale := rfl
@[simp] theorem State.withScale_hostWriteBypass : (s.withScale n).hostWriteBypass = s.hostWriteBypass := rfl
@[simp] theorem State.withScale_reply : (s.withScale n).reply = s.reply := rfl
@[simp] theorem State.withScale_drawCount : (s.withScale n).drawCount = s.drawCount := rfl
@[simp] theorem State.withScale_reg (j : BitVec 5) : (s.withScale n).reg j = s.reg j := rfl
@[simp] theorem State.withScale_memRead (x : Offset) : (s.withScale n).memRead x = s.memRead x := rfl

end

/-! ### withDeviceTime -/

section
variable (s : State) (n : Nat)

@[simp] theorem State.withDeviceTime_crtc : (s.withDeviceTime n).crtc = s.crtc := rfl
@[simp] theorem State.withDeviceTime_crtcIndex : (s.withDeviceTime n).crtcIndex = s.crtcIndex := rfl
@[simp] theorem State.withDeviceTime_mode : (s.withDeviceTime n).mode = s.mode := rfl
@[simp] theorem State.withDeviceTime_modeExt : (s.withDeviceTime n).modeExt = s.modeExt := rfl
@[simp] theorem State.withDeviceTime_status : (s.withDeviceTime n).status = s.status := rfl
@[simp] theorem State.withDeviceTime_palette : (s.withDeviceTime n).palette = s.palette := rfl
@[simp] theorem State.withDeviceTime_palExtCursor : (s.withDeviceTime n).palExtCursor = s.palExtCursor := rfl
@[simp] theorem State.withDeviceTime_palExtEnable : (s.withDeviceTime n).palExtEnable = s.palExtEnable := rfl
@[simp] theorem State.withDeviceTime_verticalCounter : (s.withDeviceTime n).verticalCounter = s.verticalCounter := rfl
@[simp] theorem State.withDeviceTime_scanlineCounter : (s.withDeviceTime n).scanlineCounter = s.scanlineCounter := rfl
@[simp] theorem State.withDeviceTime_displayLine : (s.withDeviceTime n).displayLine = s.displayLine := rfl
@[simp] theorem State.withDeviceTime_lineInFramePosition : (s.withDeviceTime n).lineInFramePosition = s.lineInFramePosition := rfl
@[simp] theorem State.withDeviceTime_verticalAdjustRemaining : (s.withDeviceTime n).verticalAdjustRemaining = s.verticalAdjustRemaining := rfl
@[simp] theorem State.withDeviceTime_verticalSyncRemaining : (s.withDeviceTime n).verticalSyncRemaining = s.verticalSyncRemaining := rfl
@[simp] theorem State.withDeviceTime_firstVisibleLine : (s.withDeviceTime n).firstVisibleLine = s.firstVisibleLine := rfl
@[simp] theorem State.withDeviceTime_lastVisibleLine : (s.withDeviceTime n).lastVisibleLine = s.lastVisibleLine := rfl
@[simp] theorem State.withDeviceTime_displayActive : (s.withDeviceTime n).displayActive = s.displayActive := rfl
@[simp] theorem State.withDeviceTime_memoryAddress : (s.withDeviceTime n).memoryAddress = s.memoryAddress := rfl
@[simp] theorem State.withDeviceTime_memoryAddressBackup : (s.withDeviceTime n).memoryAddressBackup = s.memoryAddressBackup := rfl
@[simp] theorem State.withDeviceTime_cursorEnabledWindow : (s.withDeviceTime n).cursorEnabledWindow = s.cursorEnabledWindow := rfl
@[simp] theorem State.withDeviceTime_cursorDisabledWindow : (s.withDeviceTime n).cursorDisabledWindow = s.cursorDisabledWindow := rfl
@[simp] theorem State.withDeviceTime_cursorVisible : (s.withDeviceTime n).cursorVisible = s.cursorVisible := rfl
@[simp] theorem State.withDeviceTime_blinkCounter : (s.withDeviceTime n).blinkCounter = s.blinkCounter := rfl
@[simp] theorem State.withDeviceTime_visiblePeriodTicks : (s.withDeviceTime n).visiblePeriodTicks = s.visiblePeriodTicks := rfl
@[simp] theorem State.withDeviceTime_blankPeriodTicks : (s.withDeviceTime n).blankPeriodTicks = s.blankPeriodTicks := rfl
@[simp] theorem State.withDeviceTime_tickScale : (s.withDeviceTime n).tickScale = s.tickScale := rfl
@[simp] theorem State.withDeviceTime_accumulatedDeviceTime : (s.withDeviceTime n).accumulatedDeviceTime = n := rfl
@[simp] theorem State.withDeviceTime_vram : (s.withDeviceTime n).vram = s.vram := rfl
@[simp] theorem State.withDeviceTime_claimedWindow : (s.withDeviceTime n).claimedWindow = s.claimedWindow := rfl
@[simp] theorem State.withDeviceTime_screenW : (s.withDeviceTime n).screenW = s.screenW := rfl
@[simp] theorem State.withDeviceTime_screenH : (s.withDeviceTime n).screenH = s.screenH := rfl
@[simp] theorem State.withDeviceTime_frameCounter : (s.withDeviceTime n).frameCounter = s.frameCounter := rfl
@[simp] theorem State.withDeviceTime_events : (s.withDeviceTime n).events = s.events := rfl
@[simp] theorem State.withDeviceTime_lifecycle : (s.withDeviceTime n).lifecycle = s.lifecycle := rfl
@[simp] theorem State.withDeviceTime_params : (s.withDeviceTime n).params = s.params := rfl
@[simp] theorem State.withDeviceTime_pending : (s.withDeviceTime n).pending = s.pending := rfl
@[simp] theorem State.withDeviceTime_hostTickScale : (s.withDeviceTime n).hostTickScale = s.hostTickScale := rfl
@[simp] theorem State.withDeviceTime_hostWriteBypass : (s.withDeviceTime n).hostWriteBypass = s.hostWriteBypass := rfl
@[simp] theorem State.withDeviceTime_reply : (s.withDeviceTime n).reply = s.reply := rfl
@[simp] theorem State.withDeviceTime_drawCount : (s.withDeviceTime n).drawCount = s.drawCount := rfl
@[simp] theorem State.withDeviceTime_reg (j : BitVec 5) : (s.withDeviceTime n).reg j = s.reg j := rfl
@[simp] theorem State.withDeviceTime_memRead (x : Offset) : (s.withDeviceTime n).memRead x = s.memRead x := rfl

end

/-! ### withLifecycle -/

section
variable (s : State) (l : Lifecycle)

@[simp] theorem State.withLifecycle_crtc : (s.withLifecycle l).crtc = s.crtc := rfl
@[simp] theorem State.withLifecycle_crtcIndex : (s.withLifecycle l).crtcIndex = s.crtcIndex := rfl
@[simp] theorem State.withLifecycle_mode : (s.withLifecycle l).mode = s.mode := rfl
@[simp] theorem State.withLifecycle_modeExt : (s.withLifecycle l).modeExt = s.modeExt := rfl
@[simp] theorem State.withLifecycle_status : (s.withLifecycle l).status = s.status := rfl
@[simp] theorem State.withLifecycle_palette : (s.withLifecycle l).palette = s.palette := rfl
@[simp] theorem State.withLifecycle_palExtCursor : (s.withLifecycle l).palExtCursor = s.palExtCursor := rfl
@[simp] theorem State.withLifecycle_palExtEnable : (s.withLifecycle l).palExtEnable = s.palExtEnable := rfl
@[simp] theorem State.withLifecycle_verticalCounter : (s.withLifecycle l).verticalCounter = s.verticalCounter := rfl
@[simp] theorem State.withLifecycle_scanlineCounter : (s.withLifecycle l).scanlineCounter = s.scanlineCounter := rfl
@[simp] theorem State.withLifecycle_displayLine : (s.withLifecycle l).displayLine = s.displayLine := rfl
@[simp] theorem State.withLifecycle_lineInFramePosition : (s.withLifecycle l).lineInFramePosition = s.lineInFramePosition := rfl
@[simp] theorem State.withLifecycle_verticalAdjustRemaining : (s.withLifecycle l).verticalAdjustRemaining = s.verticalAdjustRemaining := rfl
@[simp] theorem State.withLifecycle_verticalSyncRemaining : (s.withLifecycle l).verticalSyncRemaining = s.verticalSyncRemaining := rfl
@[simp] theorem State.withLifecycle_firstVisibleLine : (s.withLifecycle l).firstVisibleLine = s.firstVisibleLine := rfl
@[simp] theorem State.withLifecycle_lastVisibleLine : (s.withLifecycle l).lastVisibleLine = s.lastVisibleLine := rfl
@[simp] theorem State.withLifecycle_displayActive : (s.withLifecycle l).displayActive = s.displayActive := rfl
@[simp] theorem State.withLifecycle_memoryAddress : (s.withLifecycle l).memoryAddress = s.memoryAddress := rfl
@[simp] theorem State.withLifecycle_memoryAddressBackup : (s.withLifecycle l).memoryAddressBackup = s.memoryAddressBackup := rfl
@[simp] theorem State.withLifecycle_cursorEnabledWindow : (s.withLifecycle l).cursorEnabledWindow = s.cursorEnabledWindow := rfl
@[simp] theorem State.withLifecycle_cursorDisabledWindow : (s.withLifecycle l).cursorDisabledWindow = s.cursorDisabledWindow := rfl
@[simp] theorem State.withLifecycle_cursorVisible : (s.withLifecycle l).cursorVisible = s.cursorVisible := rfl
@[simp] theorem State.withLifecycle_blinkCounter : (s.withLifecycle l).blinkCounter = s.blinkCounter := rfl
@[simp] theorem State.withLifecycle_visiblePeriodTicks : (s.withLifecycle l).visiblePeriodTicks = s.visiblePeriodTicks := rfl
@[simp] theorem State.withLifecycle_blankPeriodTicks : (s.withLifecycle l).blankPeriodTicks = s.blankPeriodTicks := rfl
@[simp] theorem State.withLifecycle_tickScale : (s.withLifecycle l).tickScale = s.tickScale := rfl
@[simp] theorem State.withLifecycle_accumulatedDeviceTime : (s.withLifecycle l).accumulatedDeviceTime = s.accumulatedDeviceTime := rfl
@[simp] theorem State.withLifecycle_vram : (s.withLifecycle l).vram = s.vram := rfl
@[simp] theorem State.withLifecycle_claimedWindow : (s.withLifecycle l).claimedWindow = s.claimedWindow := rfl
@[simp] theorem State.withLifecycle_screenW : (s.withLifecycle l).screenW = s.screenW := rfl
@[simp] theorem State.withLifecycle_screenH : (s.withLifecycle l).screenH = s.screenH := rfl
@[simp] theorem State.withLifecycle_frameCounter : (s.withLifecycle l).frameCounter = s.frameCounter := rfl
@[simp] theorem State.withLifecycle_events : (s.withLifecycle l).events = s.events := rfl
@[simp] theorem State.withLifecycle_lifecycle : (s.withLifecycle l).lifecycle = l := rfl
@[simp] theorem State.withLifecycle_params : (s.withLifecycle l).params = s.params := rfl
@[simp] theorem State.withLifecycle_pending : (s.withLifecycle l).pending = s.pending := rfl
@[simp] theorem State.withLifecycle_hostTickScale : (s.withLifecycle l).hostTickScale = s.hostTickScale := rfl
@[simp] theorem State.withLifecycle_hostWriteBypass : (s.withLifecycle l).hostWriteBypass = s.hostWriteBypass := rfl
@[simp] theorem State.withLifecycle_reply : (s.withLifecycle l).reply = s.reply := rfl
@[simp] theorem State.withLifecycle_drawCount : (s.withLifecycle l).drawCount = s.drawCount := rfl
@[simp] theorem State.withLifecycle_reg (j : BitVec 5) : (s.withLifecycle l).reg j = s.reg j := rfl
@[simp] theorem State.withLifecycle_memRead (x : Offset) : (s.withLifecycle l).memRead x = s.memRead x := rfl

end

/-! ### countDraw -/

section
variable (s : State)

@[simp] theorem State.countDraw_crtc : (s.countDraw).crtc = s.crtc := rfl
@[simp] theorem State.countDraw_crtcIndex : (s.countDraw).crtcIndex = s.crtcIndex := rfl
@[simp] theorem State.countDraw_mode : (s.countDraw).mode = s.mode := rfl
@[simp] theorem State.countDraw_modeExt : (s.countDraw).modeExt = s.modeExt := rfl
@[simp] theorem State.countDraw_status : (s.countDraw).status = s.status := rfl
@[simp] theorem State.countDraw_palette : (s.countDraw).palette = s.palette := rfl
@[simp] theorem State.countDraw_palExtCursor : (s.countDraw).palExtCursor = s.palExtCursor := rfl
@[simp] theorem State.countDraw_palExtEnable : (s.countDraw).palExtEnable = s.palExtEnable := rfl
@[simp] theorem State.countDraw_verticalCounter : (s.countDraw).verticalCounter = s.verticalCounter := rfl
@[simp] theorem State.countDraw_scanlineCounter : (s.countDraw).scanlineCounter = s.scanlineCounter := rfl
@[simp] theorem State.countDraw_displayLine : (s.countDraw).displayLine = s.displayLine := rfl
@[simp] theorem State.countDraw_lineInFramePosition : (s.countDraw).lineInFramePosition = s.lineInFramePosition := rfl
@[simp] theorem State.countDraw_verticalAdjustRemaining : (s.countDraw).verticalAdjustRemaining = s.verticalAdjustRemaining := rfl
@[simp] theorem State.countDraw_verticalSyncRemaining : (s.countDraw).verticalSyncRemaining = s.verticalSyncRemaining := rfl
@[simp] theorem State.countDraw_firstVisibleLine : (s.countDraw).firstVisibleLine = s.firstVisibleLine := rfl
@[simp] theorem State.countDraw_lastVisibleLine : (s.countDraw).lastVisibleLine = s.lastVisibleLine := rfl
@[simp] theorem State.countDraw_displayActive : (s.countDraw).displayActive = s.displayActive := rfl
@[simp] theorem State.countDraw_memoryAddress : (s.countDraw).memoryAddress = s.memoryAddress := rfl
@[simp] theorem State.countDraw_memoryAddressBackup : (s.countDraw).memoryAddressBackup = s.memoryAddressBackup := rfl
@[simp] theorem State.countDraw_cursorEnabledWindow : (s.countDraw).cursorEnabledWindow = s.cursorEnabledWindow := rfl
@[simp] theorem State.countDraw_cursorDisabledWindow : (s.countDraw).cursorDisabledWindow = s.cursorDisabledWindow := rfl
@[simp] theorem State.countDraw_cursorVisible : (s.countDraw).cursorVisible = s.cursorVisible := rfl
@[simp] theorem State.countDraw_blinkCounter : (s.countDraw).blinkCounter = s.blinkCounter := rfl
@[simp] theorem State.countDraw_visiblePeriodTicks : (s.countDraw).visiblePeriodTicks = s.visiblePeriodTicks := rfl
@[simp] theorem State.countDraw_blankPeriodTicks : (s.countDraw).blankPeriodTicks = s.blankPeriodTicks := rfl
@[simp] theorem State.countDraw_tickScale : (s.countDraw).tickScale = s.tickScale := rfl
@[simp] theorem State.countDraw_accumulatedDeviceTime : (s.countDraw).accumulatedDeviceTime = s.accumulatedDeviceTime := rfl
@[simp] theorem State.countDraw_vram : (s.countDraw).vram = s.vram := rfl
@[simp] theorem State.countDraw_claimedWindow : (s.countDraw).claimedWindow = s.claimedWindow := rfl
@[simp] theorem State.countDraw_screenW : (s.countDraw).screenW = s.screenW := rfl
@[simp] theorem State.countDraw_screenH : (s.countDraw).screenH = s.screenH := rfl
@[simp] theorem State.countDraw_frameCounter : (s.countDraw).frameCounter = s.frameCounter := rfl
@[simp] theorem State.countDraw_events : (s.countDraw).events = s.events := rfl
@[simp] theorem State.countDraw_lifecycle : (s.countDraw).lifecycle = s.lifecycle := rfl
@[simp] theorem State.countDraw_params : (s.countDraw).params = s.params := rfl
@[simp] theorem State.countDraw_pending : (s.countDraw).pending = s.pending := rfl
@[simp] theorem State.countDraw_hostTickScale : (s.countDraw).hostTickScale = s.hostTickScale := rfl
@[simp] theorem State.countDraw_hostWriteBypass : (s.countDraw).hostWriteBypass = s.hostWriteBypass := rfl
@[simp] theorem State.countDraw_reply : (s.countDraw).reply = s.reply := rfl
@[simp] theorem State.countDraw_drawCount : (s.countDraw).drawCount = s.drawCount + 1 := rfl
@[simp] theorem State.countDraw_reg (j : BitVec 5) : (s.countDraw).reg j = s.reg j := rfl
@[simp] theorem State.countDraw_memRead (x : Offset) : (s.countDraw).memRead x = s.memRead x := rfl

end

/-! ### emit -/

section
variable (s : State) (e : Event)

@[simp] theorem State.emit_crtc : (s.emit e).crtc = s.crtc := rfl
@[simp] theorem State.emit_crtcIndex : (s.emit e).crtcIndex = s.crtcIndex := rfl
@[simp] theorem State.emit_mode : (s.emit e).mode = s.mode := rfl
@[simp] theorem State.emit_modeExt : (s.emit e).modeExt = s.modeExt := rfl
@[simp] theorem State.emit_status : (s.emit e).status = s.status := rfl
@[simp] theorem State.emit_palette : (s.emit e).palette = s.palette := rfl
@[simp] theorem State.emit_palExtCursor : (s.emit e).palExtCursor = s.palExtCursor := rfl
@[simp] theorem State.emit_palExtEnable : (s.emit e).palExtEnable = s.palExtEnable := rfl
@[simp] theorem State.emit_verticalCounter : (s.emit e).verticalCounter = s.verticalCounter := rfl
@[simp] theorem State.emit_scanlineCounter : (s.emit e).scanlineCounter = s.scanlineCounter := rfl
@[simp] theorem State.emit_displayLine : (s.emit e).displayLine = s.displayLine := rfl
@[simp] theorem State.emit_lineInFramePosition : (s.emit e).lineInFramePosition = s.lineInFramePosition := rfl
@[simp] theorem State.emit_verticalAdjustRemaining : (s.emit e).verticalAdjustRemaining = s.verticalAdjustRemaining := rfl
@[simp] theorem State.emit_verticalSyncRemaining : (s.emit e).verticalSyncRemaining = s.verticalSyncRemaining := rfl
@[simp] theorem State.emit_firstVisibleLine : (s.emit e).firstVisibleLine = s.firstVisibleLine := rfl
@[simp] theorem State.emit_lastVisibleLine : (s.emit e).lastVisibleLine = s.lastVisibleLine := rfl
@[simp] theorem State.emit_displayActive : (s.emit e).displayActive = s.displayActive := rfl
@[simp] theorem State.emit_memoryAddress : (s.emit e).memoryAddress = s.memoryAddress := rfl
@[simp] theorem State.emit_memoryAddressBackup : (s.emit e).memoryAddressBackup = s.memoryAddressBackup := rfl
@[simp] theorem State.emit_cursorEnabledWindow : (s.emit e).cursorEnabledWindow = s.cursorEnabledWindow := rfl
@[simp] theorem State.emit_cursorDisabledWindow : (s.emit e).cursorDisabledWindow = s.cursorDisabledWindow := rfl
@[simp] theorem State.emit_cursorVisible : (s.emit e).cursorVisible = s.cursorVisible := rfl
@[simp] theorem State.emit_blinkCounter : (s.emit e).blinkCounter = s.blinkCounter := rfl
@[simp] theorem State.emit_visiblePeriodTicks : (s.emit e).visiblePeriodTicks = s.visiblePeriodTicks := rfl
@[simp] theorem State.emit_blankPeriodTicks : (s.emit e).blankPeriodTicks = s.blankPeriodTicks := rfl
@[simp] theorem State.emit_tickScale : (s.emit e).tickScale = s.tickScale := rfl
@[simp] theorem State.emit_accumulatedDeviceTime : (s.emit e).accumulatedDeviceTime = s.accumulatedDeviceTime := rfl
@[simp] theorem State.emit_vram : (s.emit e).vram = s.vram := rfl
@[simp] theorem State.emit_claimedWindow : (s.emit e).claimedWindow = s.claimedWindow := rfl
@[simp] theorem State.emit_screenW : (s.emit e).screenW = s.screenW := rfl
@[simp] theorem State.emit_screenH : (s.emit e).screenH = s.screenH := rfl
@[simp] theorem State.emit_frameCounter : (s.emit e).frameCounter = s.frameCounter := rfl
@[simp] theorem State.emit_events : (s.emit e).events = s.events ++ [e] := rfl
@[simp] theorem State.emit_lifecycle : (s.emit e).lifecycle = s.lifecycle := rfl
@[simp] theorem State.emit_params : (s.emit e).params = s.params := rfl
@[simp] theorem State.emit_pending : (s.emit e).pending = s.pending := rfl
@[simp] theorem State.emit_hostTickScale : (s.emit e).hostTickScale = s.hostTickScale := rfl
@[simp] theorem State.emit_hostWriteBypass : (s.emit e).hostWriteBypass = s.hostWriteBypass := rfl
@[simp] theorem State.emit_reply : (s.emit e).reply = s.reply := rfl
@[simp] theorem State.emit_drawCount : (s.emit e).drawCount = s.drawCount := rfl
@[simp] theorem State.emit_reg (j : BitVec 5) : (s.emit e).reg j = s.reg j := rfl
@[simp] theorem State.emit_memRead (x : Offset) : (s.emit e).memRead x = s.memRead x := rfl

end

/-! ### answer -/

section
variable (s : State) (b : Byte)

@[simp] theorem State.answer_crtc : (s.answer b).crtc = s.crtc := rfl
@[simp] theorem State.answer_crtcIndex : (s.answer b).crtcIndex = s.crtcIndex := rfl
@[simp] theorem State.answer_mode : (s.answer b).mode = s.mode := rfl
@[simp] theorem State.answer_modeExt : (s.answer b).modeExt = s.modeExt := rfl
@[simp] theorem State.answer_status : (s.answer b).status = s.status := rfl
@[simp] theorem State.answer_palette : (s.answer b).palette = s.palette := rfl
@[simp] theorem State.answer_palExtCursor : (s.answer b).palExtCursor = s.palExtCursor := rfl
@[simp] theorem State.answer_palExtEnable : (s.answer b).palExtEnable = s.palExtEnable := rfl
@[simp] theorem State.answer_verticalCounter : (s.answer b).verticalCounter = s.verticalCounter := rfl
@[simp] theorem State.answer_scanlineCounter : (s.answer b).scanlineCounter = s.scanlineCounter := rfl
@[simp] theorem State.answer_displayLine : (s.answer b).displayLine = s.displayLine := rfl
@[simp] theorem State.answer_lineInFramePosition : (s.answer b).lineInFramePosition = s.lineInFramePosition := rfl
@[simp] theorem State.answer_verticalAdjustRemaining : (s.answer b).verticalAdjustRemaining = s.verticalAdjustRemaining := rfl
@[simp] theorem State.answer_verticalSyncRemaining : (s.answer b).verticalSyncRemaining = s.verticalSyncRemaining := rfl
@[simp] theorem State.answer_firstVisibleLine : (s.answer b).firstVisibleLine = s.firstVisibleLine := rfl
@[simp] theorem State.answer_lastVisibleLine : (s.answer b).lastVisibleLine = s.lastVisibleLine := rfl
@[simp] theorem State.answer_displayActive : (s.answer b).displayActive = s.displayActive := rfl
@[simp] theorem State.answer_memoryAddress : (s.answer b).memoryAddress = s.memoryAddress := rfl
@[simp] theorem State.answer_memoryAddressBackup : (s.answer b).memoryAddressBackup = s.memoryAddressBackup := rfl
@[simp] theorem State.answer_cursorEnabledWindow : (s.answer b).cursorEnabledWindow = s.cursorEnabledWindow := rfl
@[simp] theorem State.answer_cursorDisabledWindow : (s.answer b).cursorDisabledWindow = s.cursorDisabledWindow := rfl
@[simp] theorem State.answer_cursorVisible : (s.answer b).cursorVisible = s.cursorVisible := rfl
@[simp] theorem State.answer_blinkCounter : (s.answer b).blinkCounter = s.blinkCounter := rfl
@[simp] theorem State.answer_visiblePeriodTicks : (s.answer b).visiblePeriodTicks = s.visiblePeriodTicks := rfl
@[simp] theorem State.answer_blankPeriodTicks : (s.answer b).blankPeriodTicks = s.blankPeriodTicks := rfl
@[simp] theorem State.answer_tickScale : (s.answer b).tickScale = s.tickScale := rfl
@[simp] theorem State.answer_accumulatedDeviceTime : (s.answer b).accumulatedDeviceTime = s.accumulatedDeviceTime := rfl
@[simp] theorem State.answer_vram : (s.answer b).vram = s.vram := rfl
@[simp] theorem State.answer_claimedWindow : (s.answer b).claimedWindow = s.claimedWindow := rfl
@[simp] theorem State.answer_screenW : (s.answer b).screenW = s.screenW := rfl
@[simp] theorem State.answer_screenH : (s.answer b).screenH = s.screenH := rfl
@[simp] theorem State.answer_frameCounter : (s.answer b).frameCounter = s.frameCounter := rfl
@[simp] theorem State.answer_events : (s.answer b).events = s.events := rfl
@[simp] theorem State.answer_lifecycle : (s.answer b).lifecycle = s.lifecycle := rfl
@[simp] theorem State.answer_params : (s.answer b).params = s.params := rfl
@[simp] theorem State.answer_pending : (s.answer b).pending = s.pending := rfl
@[simp] theorem State.answer_hostTickScale : (s.answer b).hostTickScale = s.hostTickScale := rfl
@[simp] theorem State.answer_hostWriteBypass : (s.answer b).hostWriteBypass = s.hostWriteBypass := rfl
@[simp] theorem State.answer_reply : (s.answer b).reply = some b := rfl
@[simp] theorem State.answer_drawCount : (s.answer b).drawCount = s.drawCount := rfl
@[simp] theorem State.answer_reg (j : BitVec 5) : (s.answer b).reg j = s.reg j := rfl
@[simp] theorem State.answer_memRead (x : Offset) : (s.answer b).memRead x = s.memRead x := rfl

end

/-! ### accept -/

section
variable (s : State) (r : Request) (q : List Request)

@[simp] theorem State.accept_crtc : (s.accept r q).crtc = s.crtc := rfl
@[simp] theorem State.accept_crtcIndex : (s.accept r q).crtcIndex = s.crtcIndex := rfl
@[simp] theorem State.accept_mode : (s.accept r q).mode = s.mode := rfl
@[simp] theorem State.accept_modeExt : (s.accept r q).modeExt = s.modeExt := rfl
@[simp] theorem State.accept_status : (s.accept r q).status = s.status := rfl
@[simp] theorem State.accept_palette : (s.accept r q).palette = s.palette := rfl
@[simp] theorem State.accept_palExtCursor : (s.accept r q).palExtCursor = s.palExtCursor := rfl
@[simp] theorem State.accept_palExtEnable : (s.accept r q).palExtEnable = s.palExtEnable := rfl
@[simp] theorem State.accept_verticalCounter : (s.accept r q).verticalCounter = s.verticalCounter := rfl
@[simp] theorem State.accept_scanlineCounter : (s.accept r q).scanlineCounter = s.scanlineCounter := rfl
@[simp] theorem State.accept_displayLine : (s.accept r q).displayLine = s.displayLine := rfl
@[simp] theorem State.accept_lineInFramePosition : (s.accept r q).lineInFramePosition = s.lineInFramePosition := rfl
@[simp] theorem State.accept_verticalAdjustRemaining : (s.accept r q).verticalAdjustRemaining = s.verticalAdjustRemaining := rfl
@[simp] theorem State.accept_verticalSyncRemaining : (s.accept r q).verticalSyncRemaining = s.verticalSyncRemaining := rfl
@[simp] theorem State.accept_firstVisibleLine : (s.accept r q).firstVisibleLine = s.firstVisibleLine := rfl
@[simp] theorem State.accept_lastVisibleLine : (s.accept r q).lastVisibleLine = s.lastVisibleLine := rfl
@[simp] theorem State.accept_displayActive : (s.accept r q).displayActive = s.displayActive := rfl
@[simp] theorem State.accept_memoryAddress : (s.accept r q).memoryAddress = s.memoryAddress := rfl
@[simp] theorem State.accept_memoryAddressBackup : (s.accept r q).memoryAddressBackup = s.memoryAddressBackup := rfl
@[simp] theorem State.accept_cursorEnabledWindow : (s.accept r q).cursorEnabledWindow = s.cursorEnabledWindow := rfl
@[simp] theorem State.accept_cursorDisabledWindow : (s.accept r q).cursorDisabledWindow = s.cursorDisabledWindow := rfl
@[simp] theorem State.accept_cursorVisible : (s.accept r q).cursorVisible = s.cursorVisible := rfl
@[simp] theorem State.accept_blinkCounter : (s.accept r q).blinkCounter = s.blinkCounter := rfl
@[simp] theorem State.accept_visiblePeriodTicks : (s.accept r q).visiblePeriodTicks = s.visiblePeriodTicks := rfl
@[simp] theorem State.accept_blankPeriodTicks : (s.accept r q).blankPeriodTicks = s.blankPeriodTicks := rfl
@[simp] theorem State.accept_tickScale : (s.accept r q).tickScale = s.tickScale := rfl
@[simp] theorem State.accept_accumulatedDeviceTime : (s.accept r q).accumulatedDeviceTime = s.accumulatedDeviceTime := rfl
@[simp] theorem State.accept_vram : (s.accept r q).vram = s.vram := rfl
@[simp] theorem State.accept_claimedWindow : (s.accept r q).claimedWindow = s.claimedWindow := rfl
@[simp] theorem State.accept_screenW : (s.accept r q).screenW = s.screenW := rfl
@[simp] theorem State.accept_screenH : (s.accept r q).screenH = s.screenH := rfl
@[simp] theorem State.accept_frameCounter : (s.accept r q).frameCounter = s.frameCounter := rfl
@[simp] theorem State.accept_events : (s.accept r q).events = s.events := rfl
@[simp] theorem State.accept_lifecycle : (s.accept r q).lifecycle = s.lifecycle := rfl
@[simp] theorem State.accept_params : (s.accept r q).params = s.params := rfl
@[simp] theorem State.accept_pending : (s.accept r q).pending = q := rfl
@[simp] theorem State.accept_hostTickScale : (s.accept r q).hostTickScale = r.tickScale := rfl
@[simp] theorem State.accept_hostWriteBypass : (s.accept r q).hostWriteBypass = r.writeBypass := rfl
@[simp] theorem State.accept_reply : (s.accept r q).reply = none := rfl
@[simp] theorem State.accept_drawCount : (s.accept r q).drawCount = s.drawCount := rfl
@[simp] theorem State.accept_reg (j : BitVec 5) : (s.accept r q).reg j = s.reg j := rfl
@[simp] theorem State.accept_memRead (x : Offset) : (s.accept r q).memRead x = s.memRead x := rfl

end

/-! ### sendFirst -/

section
variable (s : State) (r : Request)

@[simp] theorem State.sendFirst_crtc : (s.sendFirst r).crtc = s.crtc := rfl
@[simp] theorem State.sendFirst_crtcIndex : (s.sendFirst r).crtcIndex = s.crtcIndex := rfl
@[simp] theorem State.sendFirst_mode : (s.sendFirst r).mode = s.mode := rfl
@[simp] theorem State.sendFirst_modeExt : (s.sendFirst r).modeExt = s.modeExt := rfl
@[simp] theorem State.sendFirst_status : (s.sendFirst r).status = s.status := rfl
@[simp] theorem State.sendFirst_palette : (s.sendFirst r).palette = s.palette := rfl
@[simp] theorem State.sendFirst_palExtCursor : (s.sendFirst r).palExtCursor = s.palExtCursor := rfl
@[simp] theorem State.sendFirst_palExtEnable : (s.sendFirst r).palExtEnable = s.palExtEnable := rfl
@[simp] theorem State.sendFirst_verticalCounter : (s.sendFirst r).verticalCounter = s.verticalCounter := rfl
@[simp] theorem State.sendFirst_scanlineCounter : (s.sendFirst r).scanlineCounter = s.scanlineCounter := rfl
@[simp] theorem State.sendFirst_displayLine : (s.sendFirst r).displayLine = s.displayLine := rfl
@[simp] theorem State.sendFirst_lineInFramePosition : (s.sendFirst r).lineInFramePosition = s.lineInFramePosition := rfl
@[simp] theorem State.sendFirst_verticalAdjustRemaining : (s.sendFirst r).verticalAdjustRemaining = s.verticalAdjustRemaining := rfl
@[simp] theorem State.sendFirst_verticalSyncRemaining : (s.sendFirst r).verticalSyncRemaining = s.verticalSyncRemaining := rfl
@[simp] theorem State.sendFirst_firstVisibleLine : (s.sendFirst r).firstVisibleLine = s.firstVisibleLine := rfl
@[simp] theorem State.sendFirst_lastVisibleLine : (s.sendFirst r).lastVisibleLine = s.lastVisibleLine := rfl
@[simp] theorem State.sendFirst_displayActive : (s.sendFirst r).displayActive = s.displayActive := rfl
@[simp] theorem State.sendFirst_memoryAddress : (s.sendFirst r).memoryAddress = s.memoryAddress := rfl
@[simp] theorem State.sendFirst_memoryAddressBackup : (s.sendFirst r).memoryAddressBackup = s.memoryAddressBackup := rfl
@[simp] theorem State.sendFirst_cursorEnabledWindow : (s.sendFirst r).cursorEnabledWindow = s.cursorEnabledWindow := rfl
@[simp] theorem State.sendFirst_cursorDisabledWindow : (s.sendFirst r).cursorDisabledWindow = s.cursorDisabledWindow := rfl
@[simp] theorem State.sendFirst_cursorVisible : (s.sendFirst r).cursorVisible = s.cursorVisible := rfl
@[simp] theorem State.sendFirst_blinkCounter : (s.sendFirst r).blinkCounter = s.blinkCounter := rfl
@[simp] theorem State.sendFirst_visiblePeriodTicks : (s.sendFirst r).visiblePeriodTicks = s.visiblePeriodTicks := rfl
@[simp] theorem State.sendFirst_blankPeriodTicks : (s.sendFirst r).blankPeriodTicks = s.blankPeriodTicks := rfl
@[simp] theorem State.sendFirst_tickScale : (s.sendFirst r).tickScale = s.tickScale := rfl
@[simp] theorem State.sendFirst_accumulatedDeviceTime : (s.sendFirst r).accumulatedDeviceTime = s.accumulatedDeviceTime := rfl
@[simp] theorem State.sendFirst_vram : (s.sendFirst r).vram = s.vram := rfl
@[simp] theorem State.sendFirst_claimedWindow : (s.sendFirst r).claimedWindow = s.claimedWindow := rfl
@[simp] theorem State.sendFirst_screenW : (s.sendFirst r).screenW = s.screenW := rfl
@[simp] theorem State.sendFirst_screenH : (s.sendFirst r).screenH = s.screenH := rfl
@[simp] theorem State.sendFirst_frameCounter : (s.sendFirst r).frameCounter = s.frameCounter := rfl
@[simp] theorem State.sendFirst_events : (s.sendFirst r).events = s.events := rfl
@[simp] theorem State.sendFirst_lifecycle : (s.sendFirst r).lifecycle = s.lifecycle := rfl
@[simp] theorem State.sendFirst_params : (s.sendFirst r).params = s.params := rfl
@[simp] theorem State.sendFirst_pending : (s.sendFirst r).pending = r :: s.pending := rfl
@[simp] theorem State.sendFirst_hostTickScale : (s.sendFirst r).hostTickScale = s.hostTickScale := rfl
@[simp] theorem State.sendFirst_hostWriteBypass : (s.sendFirst r).hostWriteBypass = s.hostWriteBypass := rfl
@[simp] theorem State.sendFirst_reply : (s.sendFirst r).reply = s.reply := rfl
@[simp] theorem State.sendFirst_drawCount : (s.sendFirst r).drawCount = s.drawCount := rfl
@[simp] theorem State.sendFirst_reg (j : BitVec 5) : (s.sendFirst r).reg j = s.reg j := rfl
@[simp] theorem State.sendFirst_memRead (x : Offset) : (s.sendFirst r).memRead x = s.memRead x := rfl

end

/-- Reading a register after writing one (rule R26). -/
@[simp] theorem State.setReg_reg (s : State) (i j : BitVec 5) (v : Byte) :
    (s.setReg i v).reg j = if j = i then v else s.reg j := by
  simp only [State.reg, State.setReg]
  split
  · next h => subst h; simp
  · next h => rw [Vector.getElem_set_ne]; exact fun h' => h (BitVec.eq_of_toNat_eq h'.symm)

end Sys2Proof.Machine
end

