-- ==== Sys2Proof/Laws/Operands.lean ====
section
/-! SUPPORT. What each accessor over the register bytes says, in arithmetic on the stored bytes. -/

namespace Sys2Proof.Machine

variable (s : State)

theorem State.doubled_iff : s.doubled = true ↔ s.reg 8 &&& 3 = 3 := by
  unfold State.doubled
  generalize s.reg 8 = x
  revert x
  decide

theorem State.atRow_iff (i : BitVec 5) : s.atRow i = true ↔ s.verticalCounter.toNat = (s.reg i).toNat := by
  unfold State.atRow State.regNat
  exact decide_eq_true_iff

theorem State.rowEnd_iff : s.rowEnd = true ↔ s.scanlineCounter.toNat = (s.reg 9).toNat ∨
    (s.reg 8 &&& 3 = 3 ∧ s.scanlineCounter.toNat = (s.reg 9).toNat / 2) := by
  unfold State.rowEnd State.regNat
  rw [Bool.or_eq_true, Bool.and_eq_true, decide_eq_true_iff, decide_eq_true_iff, s.doubled_iff]

theorem State.rowEnd_of_single (h : s.reg 8 &&& 3 ≠ 3) :
    s.rowEnd = true ↔ s.scanlineCounter.toNat = (s.reg 9).toNat := by
  rw [s.rowEnd_iff]
  exact or_iff_left fun h' => h h'.1

/-- The low 5 bits of a byte, as a number. -/
theorem toNat_low5 (x : Byte) : (x.extractLsb' 0 5).toNat = (x &&& 0x1F).toNat := by
  revert x
  decide

/-- The compare of rules R148 and R160 with the low 5 bits of a byte. -/
theorem State.atCursorRow_iff (x : Byte) : s.atCursorRow (x.extractLsb' 0 5) = true ↔
    s.scanlineCounter.toNat = (x &&& 0x1F).toNat ∨
      (s.reg 8 &&& 3 = 3 ∧ s.scanlineCounter.toNat = (x &&& 0x1F).toNat / 2) := by
  have half (r : Row) : s.scanlineCounter = r >>> 1 ↔ s.scanlineCounter.toNat = r.toNat / 2 := by
    rw [← BitVec.toNat_inj, BitVec.toNat_ushiftRight, Nat.shiftRight_eq_div_pow, Nat.pow_one]
  unfold State.atCursorRow
  rw [Bool.or_eq_true, Bool.and_eq_true, beq_iff_eq, beq_iff_eq, s.doubled_iff, ← toNat_low5, half,
    BitVec.toNat_inj]

theorem State.renderRow_eq : s.renderRow =
    if s.reg 8 &&& 3 = 3 then (s.scanlineCounter <<< 1) &&& s.params.doubleMask else s.scanlineCounter := by
  unfold State.renderRow
  simp only [s.doubled_iff]

/-- A 14-bit address from two register bytes (rules R100 and R101). -/
theorem extract14_append (hi lo : Byte) : (hi ++ lo).extractLsb' 0 14 = BitVec.ofNat 14 (hi.toNat * 256 + lo.toNat) := by
  apply BitVec.eq_of_toNat_eq
  rw [BitVec.extractLsb'_toNat, BitVec.toNat_append, BitVec.toNat_ofNat, Nat.shiftRight_zero,
    ← Nat.shiftLeft_add_eq_or_of_lt lo.isLt, Nat.shiftLeft_eq]

theorem State.startAddress_eq :
    s.startAddress = BitVec.ofNat 14 ((s.reg 12).toNat * 256 + (s.reg 13).toNat) := extract14_append _ _

theorem State.cursorAddress_eq :
    s.cursorAddress = BitVec.ofNat 14 ((s.reg 14).toNat * 256 + (s.reg 15).toNat) := extract14_append _ _

theorem State.graphicsMode_iff : s.graphicsMode = true ↔ s.mode.getLsbD 1 = true ∧ s.modeExt.getLsbD 0 = true := by
  unfold State.graphicsMode
  exact Bool.and_eq_true_iff

theorem cursorMode_one (x : Byte) : x.extractLsb' 5 2 = 1 ↔ x &&& 0x60 = 0x20 := by
  revert x
  decide

theorem cursorMode_three (x : Byte) : x.extractLsb' 5 2 = 3 ↔ x &&& 0x60 = 0x60 := by
  revert x
  decide

end Sys2Proof.Machine
end

