-- ==== Sys2Proof/Laws/Timing.lean ====
section
/-! SUPPORT. What each named step of the timing state machine can do, said once, for the proofs about ticks. -/

namespace Sys2Proof.Machine

variable (s : State)

/-! ### Periods -/

theorem State.blankColumns_nonneg (h : (s.reg 1).toNat ≤ (s.reg 0).toNat + 1) : 0 ≤ s.blankColumns := by
  simp only [State.blankColumns, State.regNat]
  omega

theorem State.blankColumns_toNat (h : (s.reg 1).toNat ≤ (s.reg 0).toNat + 1) :
    s.blankColumns.toNat = (s.reg 0).toNat + 1 - (s.reg 1).toNat := by
  simp only [State.blankColumns, State.regNat]
  omega

/-- Rule R161 with a blank that is not negative. -/
theorem State.recomputeTiming_of_le (h : (s.reg 1).toNat ≤ (s.reg 0).toNat + 1) :
    s.recomputeTiming = s.withPeriods ((s.reg 1).toNat * s.tickScale)
      (((s.reg 0).toNat + 1 - (s.reg 1).toNat) * s.tickScale) := by
  rw [← s.blankColumns_toNat h]
  exact if_pos (s.blankColumns_nonneg h)

/-- Rule R162: a negative blank makes a draw. -/
theorem State.recomputeTiming_of_lt (h : (s.reg 0).toNat + 1 < (s.reg 1).toNat) :
    s.recomputeTiming =
      (s.withPeriods ((s.reg 1).toNat * s.tickScale) (Config.freeBlankPeriod s.drawCount)).countDraw := by
  refine if_neg ?_
  simp only [State.blankColumns, State.regNat]
  omega

/-- Everything RecomputeTiming can do. -/
theorem State.recomputeTiming_cases : ∃ blank draws,
    s.recomputeTiming = { s.withPeriods ((s.reg 1).toNat * s.tickScale) blank with drawCount := draws } := by
  by_cases h : (s.reg 1).toNat ≤ (s.reg 0).toNat + 1
  · exact ⟨_, s.drawCount, s.recomputeTiming_of_le h⟩
  · exact ⟨_, s.drawCount + 1, s.recomputeTiming_of_lt (by omega)⟩

/-! ### What no tick changes -/

/-- Two states agree on every field that no step of the timing state machine writes. -/
structure State.SameSetup (t u : State) : Prop where
  crtc : u.crtc = t.crtc
  crtcIndex : u.crtcIndex = t.crtcIndex
  mode : u.mode = t.mode
  modeExt : u.modeExt = t.modeExt
  palette : u.palette = t.palette
  palExtCursor : u.palExtCursor = t.palExtCursor
  palExtEnable : u.palExtEnable = t.palExtEnable
  visiblePeriodTicks : u.visiblePeriodTicks = t.visiblePeriodTicks
  blankPeriodTicks : u.blankPeriodTicks = t.blankPeriodTicks
  tickScale : u.tickScale = t.tickScale
  vram : u.vram = t.vram
  claimedWindow : u.claimedWindow = t.claimedWindow
  lifecycle : u.lifecycle = t.lifecycle
  params : u.params = t.params
  pending : u.pending = t.pending
  hostTickScale : u.hostTickScale = t.hostTickScale
  hostWriteBypass : u.hostWriteBypass = t.hostWriteBypass
  reply : u.reply = t.reply
  drawCount : u.drawCount = t.drawCount

theorem State.SameSetup.reg {t u : State} (h : t.SameSetup u) (i : BitVec 5) : u.reg i = t.reg i := by
  simp only [State.reg, h.crtc]

theorem State.SameSetup.refl : s.SameSetup s := by constructor <;> rfl

theorem State.SameSetup.trans {t u v : State} (h : t.SameSetup u) (h' : u.SameSetup v) : t.SameSetup v := by
  cases h
  cases h'
  constructor <;> simp only [*]

theorem State.SameSetup.ite {c : Prop} [Decidable c] {t u v : State} (h : t.SameSetup u) (h' : t.SameSetup v) :
    t.SameSetup (if c then u else v) := by
  split
  · exact h
  · exact h'

theorem State.schedule_setup (p : Nat) : s.SameSetup (s.schedule p) := by constructor <;> rfl

theorem State.enterBlankHalf_setup : s.SameSetup s.enterBlankHalf := by constructor <;> rfl

theorem State.visibleLineBookkeeping_setup : s.SameSetup s.visibleLineBookkeeping :=
  State.SameSetup.trans (u := if (s.displayLine : Int) < s.firstVisibleLine
      then (s.withFirstLine s.displayLine).emit .waitForBuffer else s)
    (.ite (by constructor <;> rfl) (.refl s)) (by constructor <;> rfl)

theorem State.renderAndEmit_setup (row : Row) : s.SameSetup (s.renderAndEmit row) := by constructor <;> rfl

theorem State.renderVisible_setup (row : Row) : s.SameSetup (s.renderVisible row) :=
  .ite (s.visibleLineBookkeeping_setup.trans (State.renderAndEmit_setup _ row)) (.refl s)

theorem State.vsyncStart_setup : s.SameSetup s.vsyncStart := .ite (by constructor <;> rfl) (.refl s)

theorem State.advanceDisplayLine_setup : s.SameSetup s.advanceDisplayLine := by constructor <;> rfl

theorem State.blankHalf_setup : s.SameSetup s.blankHalf :=
  ((((s.schedule_setup _).trans (State.enterBlankHalf_setup _)).trans (State.renderVisible_setup _ _)).trans
    (State.vsyncStart_setup _)).trans (State.advanceDisplayLine_setup _)

theorem State.leaveScanline_setup : s.SameSetup s.leaveScanline :=
  State.SameSetup.trans (u := if s.displayActive then s.clearInProgress else s)
    (.ite (by constructor <;> rfl) (.refl s)) (by constructor <;> rfl)

theorem State.vsyncCountdown_setup : s.SameSetup s.vsyncCountdown :=
  .ite (.refl s) (.ite (by constructor <;> rfl) (by constructor <;> rfl))

theorem State.cursorOffBoundary_setup : s.SameSetup s.cursorOffBoundary := .ite (by constructor <;> rfl) (.refl s)

theorem State.openActiveHalf_setup : s.SameSetup s.openActiveHalf :=
  (((s.schedule_setup _).trans (State.leaveScanline_setup _)).trans (State.vsyncCountdown_setup _)).trans
    (State.cursorOffBoundary_setup _)

theorem State.nextScanline_setup : s.SameSetup s.nextScanline := by
  constructor <;> simp [State.nextScanline]

theorem State.restartDisplay_setup : s.SameSetup s.restartDisplay := by
  constructor <;> simp [State.restartDisplay]

theorem State.adjustLine_setup : s.SameSetup s.adjustLine :=
  .ite ((s.nextScanline_setup.trans (State.SameSetup.trans (u := s.nextScanline.withAdjust 0)
      (by constructor <;> rfl) (State.restartDisplay_setup _))).trans (by constructor <;> rfl))
    (s.nextScanline_setup.trans (by constructor <;> rfl))

theorem State.displayedRowsDone_setup : s.SameSetup s.displayedRowsDone := .ite (by constructor <;> rfl) (.refl s)

theorem State.frameWrap_setup : s.SameSetup s.frameWrap := by
  have h : s.SameSetup ((s.withRow 0).withAdjust (s.reg 5)) := by constructor <;> rfl
  exact (State.SameSetup.ite (c := s.reg 5 = 0) (h.trans (State.restartDisplay_setup _)) h).trans
    (by constructor <;> rfl)

theorem State.resizeIfChanged_setup (w h : Int) : s.SameSetup (s.resizeIfChanged w h) :=
  .ite (by constructor <;> rfl) (.refl s)

theorem State.frameEnd_setup : s.SameSetup s.frameEnd := by
  refine (s.resizeIfChanged_setup s.frameWidth s.frameHeight).trans ?_
  constructor <;> simp [State.frameEnd, State.blitFrame, State.resetFrameBookkeeping]

theorem State.vsyncRow_setup : s.SameSetup s.vsyncRow := by
  have h : s.SameSetup (((s.withDisplay false).withDisplayLine 0).withVsync Config.vsyncLines) := by
    constructor <;> simp
  exact .ite h (h.trans (State.frameEnd_setup _))

theorem State.wrapRows_setup : s.SameSetup s.wrapRows := by
  have h : s.SameSetup s.startNextRow.displayedRowsDone :=
    State.SameSetup.trans (u := s.startNextRow) (by constructor <;> simp [State.startNextRow])
      (State.displayedRowsDone_setup _)
  exact .ite (h.trans (State.frameWrap_setup _)) h

theorem State.endOfRow_setup : s.SameSetup s.endOfRow :=
  .ite (s.wrapRows_setup.trans (State.vsyncRow_setup _)) s.wrapRows_setup

theorem State.endScanline_setup : s.SameSetup s.endScanline :=
  .ite s.adjustLine_setup (.ite s.endOfRow_setup s.nextScanline_setup)

theorem State.cursorOnBoundary_setup : s.SameSetup s.cursorOnBoundary := .ite (by constructor <;> rfl) (.refl s)

theorem State.activeHalf_setup : s.SameSetup s.activeHalf :=
  (s.openActiveHalf_setup.trans (State.endScanline_setup _)).trans (State.cursorOnBoundary_setup _)

theorem State.advance_setup : s.SameSetup s.advance := .ite s.activeHalf_setup s.blankHalf_setup

/-! ### The steps, with their conditions moved into the values they write -/

/-- Rule R146. -/
theorem State.leaveScanline_eq :
    s.leaveScanline = (s.withStatus (s.status &&& (if s.displayActive then 0xFE else 0xFF))).withHalf false := by
  have ff : s.status &&& 0xFF = s.status := BitVec.and_allOnes
  unfold State.leaveScanline
  split
  · rfl
  · rw [ff]
    rfl

/-- Rule R147: the countdown goes down by 1 unless it is 0, and VSYNC goes where it reaches 0. -/
theorem State.vsyncCountdown_eq : s.vsyncCountdown =
    (s.withVsync (s.verticalSyncRemaining - if s.verticalSyncRemaining = 0 then 0 else 1)).withStatus
      (s.status &&& (if s.verticalSyncRemaining = 1 then 0xF7 else 0xFF)) := by
  have ff : s.status &&& 0xFF = s.status := BitVec.and_allOnes
  unfold State.vsyncCountdown
  split
  · next h =>
    rw [h, if_neg (by decide), ff, show (0 : Byte) - 0 = 0 from rfl, ← h]
    rfl
  · split
    · next h1 => rw [h1]; rfl
    · rw [ff]
      rfl

/-- Rule R148. -/
theorem State.cursorOffBoundary_eq : s.cursorOffBoundary =
    s.withCursorWindow (s.cursorEnabledWindow && !s.atCursorRow s.cursorEndRow)
      (s.cursorDisabledWindow || s.atCursorRow s.cursorEndRow) := by
  unfold State.cursorOffBoundary
  cases s.atCursorRow s.cursorEndRow
  · simp only [Bool.not_false, Bool.and_true, Bool.or_false]
    rfl
  · simp

/-- Rule R160. -/
theorem State.cursorOnBoundary_eq : s.cursorOnBoundary =
    s.withCursorWindow (s.cursorEnabledWindow || s.atCursorRow s.cursorStartRow) s.cursorDisabledWindow := by
  unfold State.cursorOnBoundary
  cases s.atCursorRow s.cursorStartRow
  · simp only [Bool.or_false]
    rfl
  · simp

/-- Rule R143. -/
theorem State.vsyncStart_eq : s.vsyncStart = s.withStatus
    (s.status ||| if s.verticalCounter.toNat = (s.reg 7).toNat ∧ s.scanlineCounter = 0 then 0x08 else 0x00) := by
  unfold State.vsyncStart
  simp only [s.atRow_iff]
  split
  · rfl
  · rw [show s.status ||| 0 = s.status from BitVec.or_zero]
    rfl

/-- Rule R141, on the first visible line of a frame. -/
theorem State.visibleLineBookkeeping_first (h : (s.displayLine : Int) < s.firstVisibleLine) :
    s.visibleLineBookkeeping =
      ((s.withFirstLine s.displayLine).emit .waitForBuffer).withLastLine s.displayLine := by
  unfold State.visibleLineBookkeeping
  rw [if_pos h]

/-- Rule R141, on a later line. -/
theorem State.visibleLineBookkeeping_later (h : ¬(s.displayLine : Int) < s.firstVisibleLine) :
    s.visibleLineBookkeeping = s.withLastLine s.displayLine := by
  unfold State.visibleLineBookkeeping
  rw [if_neg h]

/-- What a line's pixels depend on: the setup, the address, the blink counter and the cursor. -/
theorem State.renderLine_congr {t u : State} (h : t.SameSetup u) (ha : u.memoryAddress = t.memoryAddress)
    (hb : u.blinkCounter = t.blinkCounter) (hc : u.cursorEnabledWindow = t.cursorEnabledWindow)
    (hv : u.cursorVisible = t.cursorVisible) : u.renderLine = t.renderLine := by
  obtain ⟨_, _, _, _, _, _, _, _, _, _, _, _, _, _, _, _, _, _, _, _, _, _, _, _, _, _, _, _, _, _, _, _, _, _, _, _, _, _,
    _, _⟩ := u
  obtain ⟨h1, _, h2, h3, _, _, _, _, _, _, h4, _, _, h5, _, _, _, _, _⟩ := h
  simp only at *
  subst h1 h2 h3 h4 h5 ha hb hc hv
  rfl

/-- Rules R141 and R142: the visible part of a blank half, with the line rendered from the state before it. -/
theorem State.renderVisible_on (row : Row) (h : s.displayActive = true) : s.renderVisible row =
    (s.visibleLineBookkeeping.withAddress (s.renderLine row).2).emit
      (.line s.displayLine (s.renderLine row).1) := by
  have hr : s.visibleLineBookkeeping.renderLine = s.renderLine := by
    apply State.renderLine_congr s.visibleLineBookkeeping_setup <;>
      (unfold State.visibleLineBookkeeping; split <;> rfl)
  have hd : s.visibleLineBookkeeping.displayLine = s.displayLine := by
    unfold State.visibleLineBookkeeping
    split <;> rfl
  unfold State.renderVisible State.renderAndEmit
  rw [if_pos h, hr, hd]

/-- Rule R151. -/
theorem State.displayedRowsDone_eq : s.displayedRowsDone =
    s.withDisplay (if s.verticalCounter.toNat = (s.reg 6).toNat then false else s.displayActive) := by
  unfold State.displayedRowsDone
  simp only [s.atRow_iff]
  split <;> rfl

/-- Rule R152. -/
theorem State.frameWrap_eq : s.frameWrap =
    (((((s.withRow 0).withAdjust (s.reg 5)).withDisplay (if s.reg 5 = 0 then true else s.displayActive)).withAddress
      (if s.reg 5 = 0 then s.startAddress else s.memoryAddress)).withRowStart
      (if s.reg 5 = 0 then s.startAddress else s.memoryAddressBackup)).withCursorVisible s.cursorGate := by
  unfold State.frameWrap State.restartDisplay
  split <;> (apply State.ext <;> simp <;> rfl)

/-- Rule R153. -/
theorem State.cursorGate_eq : s.cursorGate =
    if s.reg 10 &&& 0x60 = 0x20 then false
    else if s.reg 10 &&& 0x60 = 0x60 then s.blinkCounter.getLsbD 4 else s.blinkCounter.getLsbD 3 := by
  unfold State.cursorGate State.cursorMode
  simp only [cursorMode_one, cursorMode_three]

/-- Rule R150 where the row completed is not the frame's last. -/
theorem State.wrapRows_inner (h : s.verticalCounter.toNat ≠ (s.reg 4).toNat) :
    s.wrapRows = s.startNextRow.displayedRowsDone := by
  unfold State.wrapRows
  rw [if_neg]
  rwa [State.atRow_iff]

/-- Rule R150 where the row completed is the frame's last. -/
theorem State.wrapRows_last (h : s.verticalCounter.toNat = (s.reg 4).toNat) :
    s.wrapRows = s.startNextRow.displayedRowsDone.frameWrap := by
  unfold State.wrapRows
  rw [if_pos]
  rwa [State.atRow_iff]

/-! ### The two halves -/

/-- The steps of an active half before the scanline's end, as one update of each field they write. -/
theorem State.openActiveHalf_eq : s.openActiveHalf =
    (((((s.emit (.schedule s.visiblePeriodTicks)).withDeviceTime
      (s.accumulatedDeviceTime + s.visiblePeriodTicks)).withStatus
      (s.status &&& (if s.displayActive then 0xFE else 0xFF) &&&
        (if s.verticalSyncRemaining = 1 then 0xF7 else 0xFF))).withHalf false).withVsync
      (s.verticalSyncRemaining - if s.verticalSyncRemaining = 0 then 0 else 1)).withCursorWindow
      (s.cursorEnabledWindow && !s.atCursorRow s.cursorEndRow)
      (s.cursorDisabledWindow || s.atCursorRow s.cursorEndRow) := by
  unfold State.openActiveHalf State.schedule
  rw [State.cursorOffBoundary_eq, State.vsyncCountdown_eq, State.leaveScanline_eq]
  apply State.ext <;> simp [State.atCursorRow, State.cursorEndRow, State.doubled]
  · congr
  · congr

theorem State.openActiveHalf_rowEnd : s.openActiveHalf.rowEnd = s.rowEnd := by
  rw [Bool.eq_iff_iff, State.rowEnd_iff, State.rowEnd_iff, State.openActiveHalf_eq]
  simp

variable {s}

theorem State.advance_blank (h : s.lineInFramePosition = false) : s.advance = s.blankHalf := by
  simp [State.advance, h]

/-- An active half of the vertical adjust (rule R149). -/
theorem State.advance_adjust (h : s.lineInFramePosition = true) (ha : s.verticalAdjustRemaining ≠ 0) :
    s.advance = s.openActiveHalf.adjustLine.cursorOnBoundary := by
  unfold State.advance State.activeHalf State.endScanline
  rw [if_pos h, if_pos]
  rw [State.openActiveHalf_eq]
  simpa using ha

/-- An active half that ends a row (rule R150). -/
theorem State.advance_row (h : s.lineInFramePosition = true) (ha : s.verticalAdjustRemaining = 0)
    (hr : s.rowEnd = true) : s.advance = s.openActiveHalf.endOfRow.cursorOnBoundary := by
  unfold State.advance State.activeHalf State.endScanline
  rw [if_pos h, if_neg, if_pos]
  · rw [State.openActiveHalf_rowEnd]
    exact hr
  · rw [State.openActiveHalf_eq]
    simpa using ha

/-- An active half inside a row (rule R159). -/
theorem State.advance_next (h : s.lineInFramePosition = true) (ha : s.verticalAdjustRemaining = 0)
    (hr : s.rowEnd = false) : s.advance = s.openActiveHalf.nextScanline.cursorOnBoundary := by
  unfold State.advance State.activeHalf State.endScanline
  rw [if_pos h, if_neg, if_neg]
  · rw [State.openActiveHalf_rowEnd]
    simpa using hr
  · rw [State.openActiveHalf_eq]
    simpa using ha

end Sys2Proof.Machine
end

