-- ==== Sys2Proof/Laws/Exec.lean ====
section
/-! SUPPORT. When a transaction runs, and what it runs on a live device. -/

namespace Sys2Proof.Machine

/-- On a live device a transaction that needs one has its result. -/
theorem State.whenLive_live {s : State} (h : s.lifecycle = .live) (t : State) : s.whenLive t = .next t := by
  simp [State.whenLive, h]

/-- A result comes only from a live device. -/
theorem State.whenLive_next {s t u : State} (h : s.whenLive t = .next u) : s.lifecycle = .live ∧ u = t := by
  unfold State.whenLive at h
  split at h
  · cases h
  · next hl => exact ⟨hl, (Host.Outcome.next.inj h).symm⟩
  · cases h

theorem State.whenScalePositive_pos {s : State} (h : 0 < s.hostTickScale) (o : Host.Outcome State Fault Refusal) :
    s.whenScalePositive o = o := if_neg (Nat.ne_of_gt h)

theorem exec_tick_live {s : State} (h : s.lifecycle = .live) : exec .tick s = .next s.advance :=
  State.whenLive_live h _

theorem exec_speed_live {s : State} (h : s.lifecycle = .live) (hs : 0 < s.hostTickScale) :
    exec .speed s = .next s.changeSpeed := by
  simp only [exec, execSpeed, h, State.whenScalePositive_pos hs]

theorem exec_init_uncreated {s : State} (h : s.lifecycle = .uncreated) (hs : 0 < s.hostTickScale) :
    exec .init s = .next s.resetDevice.launch := by
  simp only [exec, execInit, h, State.whenScalePositive_pos hs]

/-- Rule R119: the registers after the correction. -/
theorem State.cursorCorrection_reg (s : State) (j : BitVec 5) : s.cursorCorrection.reg j =
    if s.reg 10 = 6 ∧ s.reg 11 = 7 then (if j = 10 then 11 else if j = 11 then 12 else s.reg j) else s.reg j := by
  simp only [State.cursorCorrection]
  split
  · simp only [State.setReg_reg]
    split_ifs <;> simp_all
  · rfl

/-- Rule R119: the correction writes registers and nothing else. -/
theorem State.cursorCorrection_frame (s : State) : s.cursorCorrection = { s with crtc := s.cursorCorrection.crtc } := by
  simp only [State.cursorCorrection]
  split <;> rfl

/-- Rule R118, the write that is discarded. -/
theorem State.writeData_dropped {s : State} (h : 22 < s.crtcIndex.toNat) (v : Byte) : s.writeData v = s := by
  have : s.indexAccessible = false := by
    simp [State.indexAccessible, Config.lastWritable]
    omega
  simp [State.writeData, this]

/-- Rule R118, the write that is accepted. -/
theorem State.writeData_accepted {s : State} (h : s.crtcIndex.toNat ≤ 22) (v : Byte) :
    s.writeData v = (s.setReg s.crtcIndex v).cursorCorrection.recomputeTiming := by
  have : s.indexAccessible = true := by
    simp [State.indexAccessible, Config.lastWritable]
    omega
  simp [State.writeData, this]

end Sys2Proof.Machine
end

