-- ==== Sys2Proof/Laws/Memory.lean ====
section
/-! SUPPORT. The laws of VRAM: what a write makes readable, what it leaves, and that it keeps the canonical form. -/

namespace Sys2Proof.Machine

/-- A write leaves every other offset as it was, in any list. -/
theorem Memory.read_write_other (m : Memory) {a b : Nat} (v : Byte) (h : b ≠ a) :
    Memory.read (Memory.write m a v) b = Memory.read m b := by
  induction m with
  | nil => by_cases hv : v = 0#8 <;> simp [Memory.write, Memory.read, hv, h.symm]
  | cons kb m ih =>
    obtain ⟨k, x⟩ := kb
    simp only [Memory.write]
    split
    · simp only [Memory.read, ih]
    · split
      · next hk => subst hk; by_cases hv : v = 0#8 <;> simp [Memory.read, hv, h.symm]
      · by_cases hv : v = 0#8 <;> simp [Memory.read, hv, h.symm]

/-- In canonical form from `lo` on, an offset below `lo` reads as 0. -/
theorem Memory.read_below (m : Memory) {lo a : Nat} (h : Memory.wfFrom lo m = true) (ha : a < lo) :
    Memory.read m a = 0#8 := by
  induction m generalizing lo with
  | nil => rfl
  | cons kb m ih =>
    obtain ⟨k, x⟩ := kb
    simp only [Memory.wfFrom, Bool.and_eq_true, decide_eq_true_eq] at h
    have hk : k ≠ a := by omega
    simp only [Memory.read, if_neg hk]
    exact ih h.2 (by omega)

/-- In canonical form a written byte is read back. -/
theorem Memory.read_write_self (m : Memory) {lo a : Nat} (v : Byte) (h : Memory.wfFrom lo m = true) :
    Memory.read (Memory.write m a v) a = v := by
  induction m generalizing lo with
  | nil => by_cases hv : v = 0#8 <;> simp [Memory.write, Memory.read, hv]
  | cons kb m ih =>
    obtain ⟨k, x⟩ := kb
    have hw := h
    simp only [Memory.wfFrom, Bool.and_eq_true, decide_eq_true_eq] at h
    simp only [Memory.write]
    split
    · next hk => simp only [Memory.read, if_neg (Nat.ne_of_lt hk)]; exact ih h.2
    · split
      · next hk =>
        subst hk
        by_cases hv : v = 0#8
        · simp [hv, Memory.read_below m h.2 (Nat.lt_succ_self k)]
        · simp [hv, Memory.read]
      · by_cases hv : v = 0#8
        · have : Memory.read ((k, x) :: m) a = 0#8 :=
            Memory.read_below (lo := k) ((k, x) :: m) (by simp [Memory.wfFrom, h]) (by omega)
          simpa [hv] using this
        · simp [hv, Memory.read]

/-- A write inside VRAM keeps the canonical form from any bound at or below its offset. -/
theorem Memory.wfFrom_write (m : Memory) {lo a : Nat} (v : Byte) (h : Memory.wfFrom lo m = true) (hlo : lo ≤ a)
    (ha : a < Config.vramSize) : Memory.wfFrom lo (Memory.write m a v) = true := by
  induction m generalizing lo with
  | nil => by_cases hv : v = 0#8 <;> simp [Memory.write, Memory.wfFrom, hv, hlo, ha]
  | cons kb m ih =>
    obtain ⟨k, x⟩ := kb
    have hw := h
    simp only [Memory.wfFrom, Bool.and_eq_true, decide_eq_true_eq] at h
    have weaken : ∀ (l : Memory) (p q : Nat), p ≤ q → Memory.wfFrom q l = true → Memory.wfFrom p l = true := by
      intro l p q hpq hl
      cases l with
      | nil => rfl
      | cons c l =>
        simp only [Memory.wfFrom, Bool.and_eq_true, decide_eq_true_eq] at hl ⊢
        exact ⟨⟨⟨by omega, hl.1.1.2⟩, hl.1.2⟩, hl.2⟩
    simp only [Memory.write]
    split
    · next hk =>
      simp only [Memory.wfFrom, Bool.and_eq_true, decide_eq_true_eq]
      exact ⟨h.1, ih h.2 (by omega)⟩
    · split
      · next hk =>
        subst hk
        by_cases hv : v = 0#8
        · simp only [hv, if_true]; exact weaken m _ _ (by omega) h.2
        · simp [hv, Memory.wfFrom, hlo, ha, h.2]
      · next hk hne =>
        by_cases hv : v = 0#8
        · simpa [hv] using hw
        · simp only [hv, if_false, Memory.wfFrom, Bool.and_eq_true, decide_eq_true_eq]
          exact ⟨⟨⟨hlo, ha⟩, hv⟩, ⟨⟨by omega, h.1.1.2⟩, h.1.2⟩, h.2⟩

/-- Every write of the machine keeps the canonical form: its offset has 16 bits. -/
theorem State.memWrite_keeps_wf (s : State) (a : Offset) (v : Byte) (h : Memory.wf s.vram = true) :
    Memory.wf (s.memWrite a v).vram = true :=
  Memory.wfFrom_write s.vram v h (Nat.zero_le _) a.isLt

/-- The written byte is read back. -/
theorem State.memRead_memWrite_self (s : State) (a : Offset) (v : Byte) (h : Memory.wf s.vram = true) :
    (s.memWrite a v).memRead a = v := Memory.read_write_self s.vram v h

/-- Every other offset reads as before. -/
theorem State.memRead_memWrite_other (s : State) {a b : Offset} (v : Byte) (h : b ≠ a) :
    (s.memWrite a v).memRead b = s.memRead b :=
  Memory.read_write_other s.vram v fun e => h (BitVec.eq_of_toNat_eq e)

/-- The contents after reset are in canonical form. -/
theorem reset_vram_wf : Memory.wf State.reset.vram = true := rfl

end Sys2Proof.Machine
end

