-- ==== Sys2Proof/Laws/PerInstr.lean ====
section
/-! SUPPORT. The per-instruction family `MatchesTableRow`: the word the encoder writes for a well-formed transaction
has, at the default port offsets, the fixed bits of its row of spec/opcode_table.json. -/

namespace Sys2Proof.Laws

/-- The `match` and `mask` of a transaction's row of spec/opcode_table.json. -/
def MatchesTableRow.row : Instr → Word32 × Word32
  | .iowIndex _ _ => (0x00000000, 0xFFFFF900)
  | .iowData _ _ => (0x00000100, 0xFFFFF900)
  | .iowMode _ => (0x00000800, 0xFFFFFF00)
  | .iowUnassigned9 _ => (0x00000900, 0xFFFFFF00)
  | .iowUnassignedA _ => (0x00000A00, 0xFFFFFF00)
  | .iowUnassignedB _ => (0x00000B00, 0xFFFFFF00)
  | .iowUnassignedC _ => (0x00000C00, 0xFFFFFF00)
  | .iowUnassignedD _ => (0x00000D00, 0xFFFFFF00)
  | .iowUnassignedE _ => (0x00000E00, 0xFFFFFF00)
  | .iowConfig _ => (0x00000F00, 0xFFFFFF00)
  | .iorIndex _ => (0x10000000, 0xFFFFF900)
  | .iorData _ => (0x10000100, 0xFFFFF900)
  | .iorStatus => (0x10000A00, 0xFFFFFF00)
  | .iorUnassigned8 => (0x10000800, 0xFFFFFF00)
  | .iorUnassigned9 => (0x10000900, 0xFFFFFF00)
  | .iorUnassignedB => (0x10000B00, 0xFFFFFF00)
  | .iorUnassignedC => (0x10000C00, 0xFFFFFF00)
  | .iorUnassignedD => (0x10000D00, 0xFFFFFF00)
  | .iorUnassignedE => (0x10000E00, 0xFFFFFF00)
  | .iorUnassignedF => (0x10000F00, 0xFFFFFF00)
  | .memw _ _ => (0x20000000, 0xFF000000)
  | .memr _ => (0x30000000, 0xFF000000)
  | .tick => (0x40000000, 0xFF000000)
  | .init => (0x50000000, 0xFF000000)
  | .close => (0x60000000, 0xFF000000)
  | .speed => (0x70000000, 0xFF000000)

/-- The encoder's word of a well-formed transaction agrees with its row on the row's fixed bits. The table is spelled
at the defaults of the port offsets. -/
def MatchesTableRow.Statement (i : Instr) : Prop :=
  i.wf = true → encode Params.default i &&& (MatchesTableRow.row i).2 = (MatchesTableRow.row i).1

/-- A mask that keeps K, Z and the address bits `m` clears the other address bits and the data. -/
theorem mask_transactionWord (k : BitVec 4) (a m : Offset) (d : Byte) :
    transactionWord k a d &&& ((0xFF : Byte) ++ m ++ (0 : Byte)) = transactionWord k (a &&& m) 0 := by
  apply BitVec.eq_of_getLsbD_eq
  intro i hi
  simp only [BitVec.getLsbD_and, getLsbD_transactionWord, BitVec.getLsbD_append]
  split_ifs <;> simp_all
  · omega
  · have ones : ∀ j, j < 8 → (255#8).getLsbD j = true := by decide
    exact fun _ => ones _ (by omega)

theorem MatchesTableRow.iowIndex (off : BitVec 4) (v : Byte) : MatchesTableRow.Statement (.iowIndex off v) :=
  fun h => by
  refine (mask_transactionWord _ _ 0xFFF9 v).trans ?_
  change isIndexPort off = true at h
  change transactionWord 0 (off.setWidth 16 &&& 0xFFF9) 0 = 0x00000000
  revert off
  decide

theorem MatchesTableRow.iowData (off : BitVec 4) (v : Byte) : MatchesTableRow.Statement (.iowData off v) :=
  fun h => by
  refine (mask_transactionWord _ _ 0xFFF9 v).trans ?_
  change isDataPort off = true at h
  change transactionWord 0 (off.setWidth 16 &&& 0xFFF9) 0 = 0x00000100
  revert off
  decide

theorem MatchesTableRow.iowMode (v : Byte) : MatchesTableRow.Statement (.iowMode v) := fun _ =>
  mask_transactionWord _ _ 0xFFFF v

theorem MatchesTableRow.iowUnassigned9 (v : Byte) : MatchesTableRow.Statement (.iowUnassigned9 v) := fun _ =>
  mask_transactionWord _ _ 0xFFFF v

theorem MatchesTableRow.iowUnassignedA (v : Byte) : MatchesTableRow.Statement (.iowUnassignedA v) := fun _ =>
  mask_transactionWord _ _ 0xFFFF v

theorem MatchesTableRow.iowUnassignedB (v : Byte) : MatchesTableRow.Statement (.iowUnassignedB v) := fun _ =>
  mask_transactionWord _ _ 0xFFFF v

theorem MatchesTableRow.iowUnassignedC (v : Byte) : MatchesTableRow.Statement (.iowUnassignedC v) := fun _ =>
  mask_transactionWord _ _ 0xFFFF v

theorem MatchesTableRow.iowUnassignedD (v : Byte) : MatchesTableRow.Statement (.iowUnassignedD v) := fun _ =>
  mask_transactionWord _ _ 0xFFFF v

theorem MatchesTableRow.iowUnassignedE (v : Byte) : MatchesTableRow.Statement (.iowUnassignedE v) := fun _ =>
  mask_transactionWord _ _ 0xFFFF v

theorem MatchesTableRow.iowConfig (v : Byte) : MatchesTableRow.Statement (.iowConfig v) := fun _ =>
  mask_transactionWord _ _ 0xFFFF v

theorem MatchesTableRow.iorIndex (off : BitVec 4) : MatchesTableRow.Statement (.iorIndex off) := fun h =>
  (mask_transactionWord _ _ 0xFFF9 0).trans (by revert off; decide)

theorem MatchesTableRow.iorData (off : BitVec 4) : MatchesTableRow.Statement (.iorData off) := fun h =>
  (mask_transactionWord _ _ 0xFFF9 0).trans (by revert off; decide)

theorem MatchesTableRow.iorStatus : MatchesTableRow.Statement (.iorStatus) := fun _ => by decide

theorem MatchesTableRow.iorUnassigned8 : MatchesTableRow.Statement (.iorUnassigned8) := fun _ => by decide

theorem MatchesTableRow.iorUnassigned9 : MatchesTableRow.Statement (.iorUnassigned9) := fun _ => by decide

theorem MatchesTableRow.iorUnassignedB : MatchesTableRow.Statement (.iorUnassignedB) := fun _ => by decide

theorem MatchesTableRow.iorUnassignedC : MatchesTableRow.Statement (.iorUnassignedC) := fun _ => by decide

theorem MatchesTableRow.iorUnassignedD : MatchesTableRow.Statement (.iorUnassignedD) := fun _ => by decide

theorem MatchesTableRow.iorUnassignedE : MatchesTableRow.Statement (.iorUnassignedE) := fun _ => by decide

theorem MatchesTableRow.iorUnassignedF : MatchesTableRow.Statement (.iorUnassignedF) := fun _ => by decide

theorem MatchesTableRow.memw (a : Offset) (v : Byte) : MatchesTableRow.Statement (.memw a v) := fun _ => by
  refine (mask_transactionWord _ _ 0 v).trans ?_
  rw [show a &&& 0 = 0 from BitVec.and_zero]
  rfl

theorem MatchesTableRow.memr (a : Offset) : MatchesTableRow.Statement (.memr a) := fun _ => by
  refine (mask_transactionWord _ _ 0 0).trans ?_
  rw [show a &&& 0 = 0 from BitVec.and_zero]
  rfl

theorem MatchesTableRow.tick : MatchesTableRow.Statement (.tick) := fun _ => by decide

theorem MatchesTableRow.init : MatchesTableRow.Statement (.init) := fun _ => by decide

theorem MatchesTableRow.close : MatchesTableRow.Statement (.close) := fun _ => by decide

theorem MatchesTableRow.speed : MatchesTableRow.Statement (.speed) := fun _ => by decide

end Sys2Proof.Laws
end

