-- ==== Sys2Proof/Laws/Render.lean ====
section
/-! SUPPORT. The pixels of one cell, and the VRAM offsets a renderer reads, in arithmetic. -/

namespace Sys2Proof.Machine

variable (s : State)

/-! ### Pixels of a cell -/

@[simp] theorem State.emitPixels_length (val : Pattern) (fg bg : Ink) :
    (s.emitPixels val fg bg).length = s.cellWidth := by simp [State.emitPixels]

/-- Column `i` shows pattern bit `8 - i` (rule R183). -/
theorem State.emitPixels_pixel (val : Pattern) (fg bg : Ink) {i : Nat} (h : i < s.cellWidth) :
    (s.emitPixels val fg bg)[i]? = some (if val.getLsbD (8 - i) then fg else bg) := by
  simp [State.emitPixels, h]

@[simp] theorem State.solidCell_length (ink : Ink) : (s.solidCell ink).length = s.cellWidth := by
  simp [State.solidCell]

theorem State.solidCell_pixel (ink : Ink) {i : Nat} (h : i < s.cellWidth) : (s.solidCell ink)[i]? = some ink := by
  simp [State.solidCell, h]

@[simp] theorem State.mdaCell_length (chr attr glyph : Byte) (row : Row) :
    (s.mdaCell chr attr glyph row).1.length = s.cellWidth := by simp [State.mdaCell]

@[simp] theorem State.cell48KOf_length (chr attr glyph : Byte) (row : Row) :
    (s.cell48KOf chr attr glyph row).1.length = s.cellWidth := by
  unfold State.cell48KOf
  dsimp only
  split_ifs <;> simp

@[simp] theorem State.overlayCursor_length (ma : CellAddr) (cell : Cell) (h : cell.1.length = s.cellWidth) :
    (s.overlayCursor ma cell).length = s.cellWidth := by
  unfold State.overlayCursor
  split
  · simp
  · exact h

/-- A cell of a strategy whose cells all have the cell's width has it under the cursor too. -/
theorem State.textCell_length {cell : Byte → Byte → Row → Cell} (h : ∀ c a r, (cell c a r).1.length = s.cellWidth)
    (row : Row) (ma : CellAddr) : (s.textCell cell row ma).length = s.cellWidth :=
  s.overlayCursor_length ma _ (h _ _ _)

@[simp] theorem State.cellPixels_length (b : BitVec 16) : (s.cellPixels b).length = 16 := by simp [State.cellPixels]

/-- Pixel `i` of a graphics cell is bit `15 - i` (rule R208). -/
theorem State.cellPixels_pixel (b : BitVec 16) {i : Nat} (h : i < 16) :
    (s.cellPixels b)[i]? = some (if b.getLsbD (15 - i) then s.params.inkOn else s.params.inkOff) := by
  simp [State.cellPixels, h]

/-- Rule R183: pattern bit `8 - i` of a glyph is glyph bit `7 - i` in the first 8 columns, and 0 in the ninth. -/
theorem glyphPattern_bit (glyph : Byte) (i : Nat) :
    (glyphPattern glyph).getLsbD (8 - i) = (decide (i < 8) && glyph.getLsbD (7 - i)) := by
  by_cases h : i < 8
  · have h1 : 8 - i < 9 := by omega
    have h2 : ¬ 8 - i < 1 := by omega
    have h3 : 8 - i - 1 = 7 - i := by omega
    have h4 : 7 - i < 9 := by omega
    simp [glyphPattern, h, h3, h4]
    omega
  · have h1 : 8 - i = 0 := by omega
    simp [glyphPattern, h, h1]

/-! ### Offsets -/

/-- Rule R64. -/
theorem charOffset_toNat (ma : CellAddr) : (charOffset ma).toNat = (2 * ma.toNat) % 16384 := by
  simp [charOffset, Nat.shiftLeft_eq]
  omega

/-- Rule R64. -/
theorem attrOffset_toNat (ma : CellAddr) : (attrOffset ma).toNat = (2 * ma.toNat + 1) % 16384 := by
  simp [attrOffset, Nat.shiftLeft_eq]
  omega

/-- Rule R173. -/
theorem State.ram4KAddr_toNat (chr : Byte) (row : Row) :
    (s.ram4KAddr chr row).toNat = (s.params.ramFontBase.toNat + 16 * chr.toNat + row.toNat) % 65536 := by
  simp [State.ram4KAddr]

/-- Rule R174: the font number of an attribute. -/
theorem fontSelect_toNat (attr : Byte) :
    (fontSelect attr).toNat = if 12 ≤ attr.toNat % 16 then attr.toNat % 16 - 8 else attr.toNat % 16 := by
  revert attr
  decide

/-- Rule R175. -/
theorem State.ram48KAddr_toNat (f : BitVec 4) (chr : Byte) (row : Row) : (s.ram48KAddr f chr row).toNat =
    (s.params.ramFontBase.toNat + 4096 * f.toNat + 16 * chr.toNat + row.toNat) % 65536 := by
  simp [State.ram48KAddr]

/-! ### The arbiter (rule R171) -/

/-- With the built-in font selected, the ROM strategy draws the arbiter's glyph. -/
theorem State.cellRom_glyphRow (h : s.textVariant = .rom) (chr attr : Byte) (row : Row) :
    s.cellRom chr attr row = s.mdaCell chr attr (s.glyphRow chr attr row) row := by
  simp [State.cellRom, State.glyphRow, h]

/-- With the 4K font selected, the 4K strategy draws the arbiter's glyph. -/
theorem State.cell4K_glyphRow (h : s.textVariant = .ram4K) (chr attr : Byte) (row : Row) :
    s.cell4K chr attr row = s.mdaCell chr attr (s.glyphRow chr attr row) row := by
  simp [State.cell4K, State.glyphRow, h]

/-- With the 48K fonts selected, the 48K strategy draws the arbiter's glyph. -/
theorem State.cell48K_glyphRow (h : s.textVariant = .ram48K) (chr attr : Byte) (row : Row) :
    s.cell48K chr attr row = s.cell48KOf chr attr (s.glyphRow chr attr row) row := by
  simp [State.cell48K, State.glyphRow, h]

end Sys2Proof.Machine
end

