-- ==== Sys2Proof/Laws/Step.lean ====
section
/-! SUPPORT. What one step does, by the queue's oldest transaction. -/

namespace Sys2Proof.Machine

/-- With nothing pending a step changes nothing (rule R233). -/
theorem step_idle {s : State} (h : s.pending = []) : step s = .next s := by
  simp only [step, State.runNext, h]

/-- A step runs the oldest transaction where its word decodes. -/
theorem step_runs {s : State} {r : Request} {rest : List Request} {i : Instr} (h : s.pending = r :: rest)
    (hd : decode s.params r.word = .ok i) : step s = exec i (s.accept r rest) := by
  simp only [step, State.runNext, h, hd]

/-- A step refuses the oldest transaction where its word does not decode (rule R86). -/
theorem step_refuses {s : State} {r : Request} {rest : List Request} {e : DecodeError} (h : s.pending = r :: rest)
    (hd : decode s.params r.word = .error e) : step s = .refused (.illegalWord e) := by
  simp only [step, State.runNext, h, hd]

/-- Everything a step that leads to a next state can have done. -/
theorem step_next {s t : State} (h : step s = .next t) :
    (s.pending = [] ∧ t = s) ∨
    ∃ r rest i, s.pending = r :: rest ∧ decode s.params r.word = .ok i ∧ exec i (s.accept r rest) = .next t := by
  cases hp : s.pending with
  | nil =>
    rw [step_idle hp] at h
    exact .inl ⟨rfl, (Host.Outcome.next.inj h).symm⟩
  | cons r rest =>
    cases hd : decode s.params r.word with
    | error e => rw [step_refuses hp hd] at h; cases h
    | ok i =>
      rw [step_runs hp hd] at h
      exact .inr ⟨r, rest, i, rfl, hd, h⟩

end Sys2Proof.Machine
end

