-- ==== Sys2Proof/Machine/Script.lean ====
section
/-! DEFINITION. The transaction scripts of the specification: one line of assembler for each transaction (rule R110) and
the pseudo-transactions with their expansions (rule R111). No step reads them; they name streams of transactions. -/

namespace Sys2Proof.Machine

/-- A number as rule R110 writes it, in hexadecimal. -/
def hexNumber (n : Nat) : String := "0x" ++ String.ofList (Nat.toDigits 16 n)

/-- The script line of a port write. -/
def scriptOut (off : BitVec 4) (v : Byte) : String := "out " ++ hexNumber off.toNat ++ ", " ++ hexNumber v.toNat

/-- The script line of a port read. -/
def scriptIn (off : BitVec 4) : String := "in " ++ hexNumber off.toNat

/-- Rule R110: the script line of a transaction, whose port offset follows the parameters. INIT and SPEED are given
with the scale they carry. -/
def scriptLine (p : Params) (i : Instr) (scale : Nat) : String :=
  let off := offsetField (encode p i)
  match i with
  | .iowIndex _ v | .iowData _ v | .iowMode v | .iowUnassigned9 v | .iowUnassignedA v | .iowUnassignedB v
  | .iowUnassignedC v | .iowUnassignedD v | .iowUnassignedE v | .iowConfig v => scriptOut off v
  | .iorIndex _ | .iorData _ | .iorStatus | .iorUnassigned8 | .iorUnassigned9 | .iorUnassignedB | .iorUnassignedC
  | .iorUnassignedD | .iorUnassignedE | .iorUnassignedF => scriptIn off
  | .memw a v => "wr " ++ hexNumber a.toNat ++ ", " ++ hexNumber v.toNat
  | .memr a => "rd " ++ hexNumber a.toNat
  | .tick => "tick"
  | .init => "init scale=" ++ hexNumber scale
  | .close => "close"
  | .speed => "speed scale=" ++ hexNumber scale

/-- The pseudo-transactions of rule R111. -/
inductive Pseudo where
  /-- `crtc r, v`: select and write a register. -/
  | crtc (r v : Byte)
  /-- `crtcrd r`: select and read a register. -/
  | crtcrd (r : Byte)
  /-- `setmode v`. -/
  | setmode (v : Byte)
  /-- `setcfg v`. -/
  | setcfg (v : Byte)
  /-- `status`. -/
  | status
  /-- `line`: one scanline. -/
  | line
  /-- `ticks n`. -/
  | ticks (n : Nat)
  /-- `fill off, n, byte`. -/
  | fill (off : Offset) (n : Nat) (v : Byte)
  deriving DecidableEq, Repr

/-- Rule R111: the expansion of a pseudo-transaction. `setmode`, `setcfg` and `status` name the transactions, whose
offsets are those of the parameters when they are encoded. A `fill` that runs past offset 0xFFFF goes on at offset 0:
the specification gives no expansion there, and the word rule R110 spells out, with an offset of more than 16 bits,
would be an illegal one (rule R86). DESIGN CHOICE, unsafe: notes/assumptions/21.md. -/
def expandPseudo : Pseudo → List Instr
  | .crtc r v => [.iowIndex 4 r, .iowData 5 v]
  | .crtcrd r => [.iowIndex 4 r, .iorData 5]
  | .setmode v => [.iowMode v]
  | .setcfg v => [.iowConfig v]
  | .status => [.iorStatus]
  | .line => [.tick, .tick]
  | .ticks n => List.replicate n .tick
  | .fill off n v => (List.range n).map fun i => .memw (off + BitVec.ofNat 16 i) v

end Sys2Proof.Machine
end

