-- ==== Sys2Proof/Tests/Slice0.lean ====
section
/-! SUPPORT. Small tests whose expected results are taken from spec/95_test_vectors.md (each names its vector) or worked
out by hand from the rule it names, and a witness for each statement with hypotheses. -/

namespace Sys2Proof.Tests

open Sys2Proof.Machine

/-! ### Helpers -/

/-- One part of the next state, none where the transaction is refused. -/
def after {α : Type} (o : Host.Outcome State Fault Refusal) (f : State → α) : Option α :=
  match o with
  | .next t => some (f t)
  | .fault _ => none
  | .refused _ => none

/-- Why a transaction is refused, none where it is not. -/
def refusal (o : Host.Outcome State Fault Refusal) : Option Refusal :=
  match o with
  | .next _ => none
  | .fault _ => none
  | .refused r => some r

/-- The reset state with some registers set. -/
def withRegs (l : List (BitVec 5 × Byte)) : State := l.foldl (fun s p => s.setReg p.1 p.2) State.reset

/-- A state with these transactions pending. -/
def sending (s : State) (ws : List Word32) : State := { s with pending := ws.map fun w => { word := w } }

/-! ### WellFormed refuses an ill-formed term for each of its checks (rule R88) -/

theorem test_wf_index_write_at_data_offset : Instr.wf (.iowIndex 5 0) = false := by decide
theorem test_wf_index_write_at_high_offset : Instr.wf (.iowIndex 8 0) = false := by decide
theorem test_wf_data_write_at_index_offset : Instr.wf (.iowData 4 0) = false := by decide
theorem test_wf_data_write_at_high_offset : Instr.wf (.iowData 9 0) = false := by decide
theorem test_wf_index_read_at_data_offset : Instr.wf (.iorIndex 1) = false := by decide
theorem test_wf_index_read_at_high_offset : Instr.wf (.iorIndex 0xA) = false := by decide
theorem test_wf_data_read_at_index_offset : Instr.wf (.iorData 6) = false := by decide
theorem test_wf_data_read_at_high_offset : Instr.wf (.iorData 0xB) = false := by decide

/-! ### Decoding: words from V-ENC, or written out from the fields of rule R81 with the offsets of rule R87 -/

theorem test_decode_index_write : decode Params.default 0x00000400 = .ok (.iowIndex 4 0x00) := by decide
theorem test_decode_data_write : decode Params.default 0x00000561 = .ok (.iowData 5 0x61) := by decide
theorem test_decode_mode_write : decode Params.default 0x00000808 = .ok (.iowMode 0x08) := by decide
theorem test_decode_config_write : decode Params.default 0x00000F03 = .ok (.iowConfig 0x03) := by decide
theorem test_decode_unassigned_write_9 : decode Params.default 0x000009A5 = .ok (.iowUnassigned9 0xA5) := by decide
theorem test_decode_unassigned_write_A : decode Params.default 0x00000AFF = .ok (.iowUnassignedA 0xFF) := by decide
theorem test_decode_unassigned_write_B : decode Params.default 0x00000B01 = .ok (.iowUnassignedB 0x01) := by decide
theorem test_decode_unassigned_write_C : decode Params.default 0x00000C80 = .ok (.iowUnassignedC 0x80) := by decide
theorem test_decode_unassigned_write_D : decode Params.default 0x00000D7F = .ok (.iowUnassignedD 0x7F) := by decide
theorem test_decode_unassigned_write_E : decode Params.default 0x00000E10 = .ok (.iowUnassignedE 0x10) := by decide
theorem test_decode_index_read : decode Params.default 0x10000600 = .ok (.iorIndex 6) := by decide
theorem test_decode_data_read : decode Params.default 0x10000700 = .ok (.iorData 7) := by decide
theorem test_decode_status_read : decode Params.default 0x10000A00 = .ok .iorStatus := by decide
theorem test_decode_status_read_ignores_data : decode Params.default 0x10000A5C = .ok .iorStatus := by decide
theorem test_decode_unassigned_read_8 : decode Params.default 0x10000800 = .ok .iorUnassigned8 := by decide
theorem test_decode_unassigned_read_9 : decode Params.default 0x10000900 = .ok .iorUnassigned9 := by decide
theorem test_decode_unassigned_read_B : decode Params.default 0x10000B00 = .ok .iorUnassignedB := by decide
theorem test_decode_unassigned_read_C : decode Params.default 0x10000C00 = .ok .iorUnassignedC := by decide
theorem test_decode_unassigned_read_D : decode Params.default 0x10000D00 = .ok .iorUnassignedD := by decide
theorem test_decode_unassigned_read_E : decode Params.default 0x10000E00 = .ok .iorUnassignedE := by decide
theorem test_decode_unassigned_read_F : decode Params.default 0x10000F00 = .ok .iorUnassignedF := by decide
theorem test_decode_memw : decode Params.default 0x201234A5 = .ok (.memw 0x1234 0xA5) := by decide
theorem test_decode_memr : decode Params.default 0x30FFFF00 = .ok (.memr 0xFFFF) := by decide
theorem test_decode_tick : decode Params.default 0x40000000 = .ok .tick := by decide
theorem test_decode_tick_ignores_fields : decode Params.default 0x40ABCDEF = .ok .tick := by decide
theorem test_decode_init : decode Params.default 0x50000000 = .ok .init := by decide
theorem test_decode_close : decode Params.default 0x60000000 = .ok .close := by decide
theorem test_decode_speed : decode Params.default 0x70000000 = .ok .speed := by decide
theorem test_decode_refuses_kind_8 : decode Params.default 0x80000000 = .error .reservedKind := by decide
theorem test_decode_refuses_kind_F : decode Params.default 0xF0000000 = .error .reservedKind := by decide
theorem test_decode_refuses_Z : decode Params.default 0x4ABCDEF0 = .error .reservedBits := by decide
theorem test_decode_refuses_port_address : decode Params.default 0x10010A00 = .error .portAddressHigh := by decide

/-- The named ports at other offsets than the defaults (rule R8): mode at 9, status at 8, configuration at 0xC. -/
def movedPorts : Params := { Params.default with offMode := 9, offStatus := 8, offConfig := 0xC }

/-- Rules R87 and R116: the named registers follow their offsets; the offsets they left are ignored. -/
theorem test_decode_moved_writes :
    decode movedPorts 0x00000937 = .ok (.iowMode 0x37) ∧ decode movedPorts 0x00000C02 = .ok (.iowConfig 2) ∧
    decode movedPorts 0x00000801 = .ok (.iowUnassigned9 1) ∧ decode movedPorts 0x00000F01 = .ok (.iowUnassignedC 1) ∧
    decode movedPorts 0x00000B01 = .ok (.iowUnassignedB 1) ∧ decode movedPorts 0x00000422 = .ok (.iowIndex 4 0x22) := by
  decide

/-- Rules R87 and R116: so do the reads; mode's own offset reads as unassigned. -/
theorem test_decode_moved_reads :
    decode movedPorts 0x10000800 = .ok .iorStatus ∧ decode movedPorts 0x10000A00 = .ok .iorUnassigned8 ∧
    decode movedPorts 0x10000900 = .ok .iorUnassigned9 ∧ decode movedPorts 0x10000700 = .ok (.iorData 7) := by decide

/-- The two registers written, exchanged with one another or with offset 9, leave six ignored offsets. -/
theorem test_decode_exchanged_ports :
    decode { Params.default with offMode := 0xF, offConfig := 8 } 0x00000802 = .ok (.iowConfig 2) ∧
    decode { Params.default with offMode := 0xF, offConfig := 9 } 0x00000801 = .ok (.iowUnassigned9 1) ∧
    decode { Params.default with offMode := 9, offConfig := 8 } 0x00000F01 = .ok (.iowUnassigned9 1) := by decide

/-- A step decodes by the parameters of its state. -/
theorem test_step_follows_parameters :
    after (step (sending { State.reset with params := movedPorts } [0x00000937])) (fun t => t.mode) = some 0x37 := by
  decide

/-- The words of rule R81, written out from a term. -/
theorem test_encode_words :
    encode Params.default (.iowData 5 0x61) = 0x00000561 ∧ encode Params.default (.iorIndex 2) = 0x10000200 ∧
    encode Params.default (.memw 0x1234 0xA5) = 0x201234A5 ∧ encode Params.default (.memr 0xFFFF) = 0x30FFFF00 ∧
    encode Params.default .speed = 0x70000000 ∧ encode movedPorts (.iowMode 0x37) = 0x00000937 := by decide

/-- The opcode table's numbering is the word's own (rule R109). -/
theorem test_table_word : decodeTableWord 32 0x00000F00 = some (.iowConfig 0) ∧ decodeTableWord 32 0x80000000 = none := by
  decide

/-- The word sent first is the one the next step runs. -/
theorem test_fetch_word : after (step (State.reset.withFetchWord 32 0x00000837)) (fun t => t.mode) = some 0x37 := by
  decide

/-! ### The step and the lifetime (V-LIF) -/

theorem test_step_idle : after (step State.reset) (fun t => t.pending) = some [] := by decide
theorem test_step_takes_the_oldest :
    after (step (sending State.reset [0x00000801, 0x00000802])) (fun t => (t.mode, t.pending.length)) = some (1, 1) := by
  decide
theorem test_step_refuses_illegal_word :
    refusal (step (sending State.reset [0x01000400])) = some (.illegalWord .reservedBits) := by decide
theorem test_tick_before_init : refusal (exec .tick State.powerOn) = some .beforeInit := by decide
theorem test_second_init : refusal (exec .init State.reset) = some .secondInit := by decide
theorem test_tick_after_close :
    refusal (exec .tick { State.reset with lifecycle := .closed }) = some .afterClose := by decide

/-- V-RST-1: INIT with scale 1, where there was no device, is the reset state. -/
theorem test_init_is_reset : after (exec .init State.powerOn) (fun t => decide (t = State.reset)) = some true := by decide

/-- V-RST-1: with scale 5 the blank period is 5. -/
theorem test_init_scale_five :
    after (exec .init { State.powerOn with hostTickScale := 5 }) (fun t => (t.visiblePeriodTicks, t.blankPeriodTicks)) =
      some (0, 5) := by decide

/-- V-LIF: CLOSE emits nothing. -/
theorem test_close :
    after (exec .close State.reset) (fun t => (t.lifecycle, t.events.length)) = some (.closed, 3) := by decide

/-- V-LIF: scale 3 with 49 and 40 gives the periods 120 and 30. -/
theorem test_speed :
    after (exec .speed { withRegs [(0, 49), (1, 40)] with hostTickScale := 3 })
      (fun t => (t.tickScale, t.visiblePeriodTicks, t.blankPeriodTicks)) = some (3, 120, 30) := by decide

/-- V-TIM: 10 and 11 give a zero blank period. -/
theorem test_speed_zero_blank :
    after (exec .speed (withRegs [(0, 10), (1, 11)])) (fun t => (t.visiblePeriodTicks, t.blankPeriodTicks, t.drawCount)) =
      some (11, 0, 0) := by decide

/-! ### Ports (V-L1, V-PRT, V-QRK, V-STS) -/

theorem test_index_write_masks : after (exec (.iowIndex 4 0xF7) State.reset) (fun t => t.crtcIndex) = some 0x17 := by decide
theorem test_index_write_port_0 : after (exec (.iowIndex 0 0x2A) State.reset) (fun t => t.crtcIndex) = some 0x0A := by decide

/-- V-L1-2: 22 is the last writable register. -/
theorem test_data_write_22 :
    after (exec (.iowData 5 0xAA) { State.reset with crtcIndex := 22 }) (fun t => t.reg 22) = some 0xAA := by decide

/-- V-QRK: with 6 in register 10, writing 7 to register 11 leaves 11 and 12. -/
theorem test_data_write_corrects :
    after (exec (.iowData 5 7) { withRegs [(10, 6)] with crtcIndex := 11 }) (fun t => (t.reg 10, t.reg 11)) =
      some (11, 12) := by decide

/-- V-QRK: the compare is on the whole byte. -/
theorem test_data_write_does_not_correct :
    after (exec (.iowData 5 7) { withRegs [(10, 0x26)] with crtcIndex := 11 }) (fun t => (t.reg 10, t.reg 11)) =
      some (0x26, 7) := by decide

/-- V-PRT: a mode write emits nothing and leaves the periods. -/
theorem test_mode_write :
    after (exec (.iowMode 0xFF) State.reset) (fun t => (t.mode, t.events.length, t.blankPeriodTicks)) = some (0xFF, 3, 1) := by
  decide

/-- V-PRT: modeExt = 3 claims the 64K window. -/
theorem test_config_write_64K :
    after (exec (.iowConfig 3) State.reset) (fun t => (t.modeExt, t.claimedWindow, t.events.getLast?)) =
      some (3, .w64K, some (.mapWindow 0xB0000 65536)) := by decide

/-- V-PRT: an unchanged configuration is announced again. -/
theorem test_config_write_again :
    after (exec (.iowConfig 1) { State.reset with modeExt := 1 }) (fun t => (t.claimedWindow, t.events.getLast?)) =
      some (.w32K, some (.mapWindow 0xB0000 32768)) := by decide

/-- V-PRT: the status stays 0x09 when its port is written. -/
theorem test_status_port_write :
    after (exec (.iowUnassignedA 0) { State.reset with status := 9 }) (fun t => t.status) = some 9 := by decide

theorem test_unassigned_writes :
    ([Instr.iowUnassigned9 1, .iowUnassignedB 2, .iowUnassignedC 3, .iowUnassignedD 4, .iowUnassignedE 5].map fun i =>
      after (exec i State.reset) (fun t => decide (t = State.reset))) = List.replicate 5 (some true) := by decide

/-- V-PRT: an index of 0x15 reads back as 0x15. -/
theorem test_index_read :
    after (exec (.iorIndex 0) { State.reset with crtcIndex := 0x15 }) (fun t => t.reply) = some (some 0x15) := by decide

/-- V-PRT and V-L1-4: a register reads back, and index 25 reads 0xFF. -/
theorem test_data_read :
    after (exec (.iorData 7) { withRegs [(21, 0x77)] with crtcIndex := 21 }) (fun t => t.reply) = some (some 0x77) := by
  decide
theorem test_data_read_above_22 :
    after (exec (.iorData 1) { State.reset with crtcIndex := 25 }) (fun t => t.reply) = some (some 0xFF) := by decide

/-- V-STS: the four values a status read can return. -/
theorem test_status_read :
    ([0x00, 0x01, 0x08, 0x09].map fun b => after (exec .iorStatus { State.reset with status := b }) (fun t => t.reply)) =
      [some (some 0x10), some (some 0x11), some (some 0x98), some (some 0x99)] := by decide

theorem test_unassigned_reads :
    ([Instr.iorUnassigned8, .iorUnassigned9, .iorUnassignedB, .iorUnassignedC, .iorUnassignedD, .iorUnassignedE,
      .iorUnassignedF].map fun i => after (exec i State.reset) (fun t => t.reply)) =
      List.replicate 7 (some (some 0xFF)) := by decide

/-! ### VRAM (V-VRM) -/

theorem test_memw : after (exec (.memw 0xFFFF 0x12) State.reset) (fun t => t.vram) = some [(0xFFFF, 0x12)] := by decide

/-- V-VRM: the bypass verdict discards the write. -/
theorem test_memw_bypassed :
    after (exec (.memw 0x0010 0x99) { State.reset with hostWriteBypass := true }) (fun t => t.vram) = some [] := by decide
theorem test_memr :
    after (exec (.memr 0x1234) { State.reset with vram := [(0x1234, 0xA5)] }) (fun t => t.reply) = some (some 0xA5) := by
  decide
theorem test_memr_unwritten :
    after (exec (.memr 0x1235) { State.reset with vram := [(0x1234, 0xA5)] }) (fun t => t.reply) = some (some 0) := by
  decide

/-- Storing 0 removes the entry, so that equal contents are equal data. -/
theorem test_memory_stays_canonical : Memory.write [(3, 1), (5, 2)] 3 0 = [(5, 2)] := by decide

/-! ### Ticks (V-RST-2, V-L1-5, V-TIM-3) -/

/-- V-RST-2, after the first tick. -/
theorem test_tick_blank_half :
    after (exec .tick State.reset)
      (fun t => (t.displayLine, t.lineInFramePosition, t.status, t.verticalSyncRemaining, t.events.getLast?)) =
      some (1, true, 0x09, 0, some (.schedule 1)) := by decide

/-- V-RST-2, after the second tick, from the state the first one leaves. -/
theorem test_tick_active_half :
    after (exec .tick { State.reset with displayLine := 1, lineInFramePosition := true, status := 9 })
      (fun t => (t.displayLine, t.lineInFramePosition, t.status, t.verticalSyncRemaining, t.cursorEnabledWindow)) =
      some (0, false, 0x09, 16, true) := by decide

/-! ### Cells (V-ROM, V-4K, V-48K, V-CUR, V-GFX)

The ROM font's contents are open (decision D19), so its cells are tested from the glyph byte the vector gives. -/

/-- A state of V-ROM: a mode byte, a blink counter and register 20. -/
def textState (mode : Byte) (blink : BitVec 32) (r20 : Byte) : State :=
  { withRegs [(20, r20)] with mode := mode, blinkCounter := blink }

/-- V-ROM: plain, inverse, blank under the 0x77 mask, underline, blink, blink over underline. -/
theorem test_rom_cells :
    ((textState 0x08 0 0).mdaCell 0x41 0x07 0x18 5).1 = [0, 0, 0, 7, 7, 0, 0, 0, 0] ∧
    ((textState 0x08 0 0).mdaCell 0x41 0x78 0x18 5).1 = [7, 7, 7, 8, 8, 7, 7, 7, 7] ∧
    ((textState 0x08 0 0).mdaCell 0x41 0x08 0x18 5).1 = [0, 0, 0, 0, 0, 0, 0, 0, 0] ∧
    ((textState 0x08 0 0).mdaCell 0x41 0x09 0x18 13).1 = [0xF, 0xF, 0xF, 0xF, 0xF, 0xF, 0xF, 0xF, 0xF] ∧
    ((textState 0x08 0 0).mdaCell 0x41 0x87 0x18 5).1 = [8, 8, 8, 7, 7, 8, 8, 8, 8] ∧
    ((textState 0x28 0x0F 0).mdaCell 0x41 0x87 0x18 5).1 = [0, 0, 0, 7, 7, 0, 0, 0, 0] ∧
    ((textState 0x28 0x10 0).mdaCell 0x41 0x81 0x18 13).1 = [0, 0, 0, 0, 0, 0, 0, 0, 0] := by decide

/-- V-ROM: the ninth pixel repeats the eighth from 0xC0 to 0xDF, not above, and not with 8 columns. -/
theorem test_ninth_pixel :
    ((textState 0x08 0 0).mdaCell 0xC0 0x07 0x01 5).1 = [0, 0, 0, 0, 0, 0, 0, 7, 7] ∧
    ((textState 0x08 0 0).mdaCell 0xC4 0x07 0xFE 5).1 = [7, 7, 7, 7, 7, 7, 7, 0, 0] ∧
    ((textState 0x08 0 0).mdaCell 0xE0 0x07 0xFF 5).1 = [7, 7, 7, 7, 7, 7, 7, 7, 0] ∧
    ((textState 0x08 0 2).mdaCell 0xC4 0x07 0xFF 5).1 = [7, 7, 7, 7, 7, 7, 7, 7] := by decide

/-- V-4K: the line of one cell, with its glyph at 0x4415. -/
theorem test_4K_line :
    State.renderText4K { withRegs [(20, 1), (1, 1)] with mode := 0x08, vram := [(0, 0x41), (1, 0x07), (0x4415, 0x18)] } 5 =
      ([0, 0, 0, 7, 7, 0, 0, 0, 0], 1) := by decide

/-- V-48K: fonts 11 and 15 (folded to 7), and the address that wraps to 0x000F. -/
theorem test_48K_addresses :
    State.reset.ram48KAddr (fontSelect 0x0B) 0x41 5 = 0xF415 ∧ State.reset.ram48KAddr (fontSelect 0x0F) 0x41 5 = 0xB415 ∧
    State.reset.ram48KAddr (fontSelect 0x0B) 0xFF 31 = 0x000F := by decide

/-- V-48K: bold, blink, no bold while blinking is enabled, underline on reverse, overline over underline. -/
theorem test_48K_cells :
    ((textState 0x08 0 5).cell48KOf 0x41 0x80 0x81 5).1 = [7, 7, 0, 0, 0, 0, 0, 7, 7] ∧
    ((textState 0x28 0x10 5).cell48KOf 0x41 0x80 0x81 5).1 = [0, 0, 0, 0, 0, 0, 0, 0, 0] ∧
    ((textState 0x28 0 5).cell48KOf 0x41 0x80 0x81 5).1 = [7, 0, 0, 0, 0, 0, 0, 7, 0] ∧
    ((withRegs [(21, 0x3D)]).cell48KOf 0x41 0x50 0x18 13).1 = [4, 4, 4, 4, 4, 4, 4, 4, 4] ∧
    ((withRegs [(21, 0x36), (22, 0x56)]).cell48KOf 0x41 0x30 0x18 6).1 = [5, 5, 5, 5, 5, 5, 5, 5, 5] ∧
    ((textState 0x08 0 5).cell48KOf 0xC4 0x80 0x01 5).1 = [0, 0, 0, 0, 0, 0, 0, 7, 7] := by decide

/-- V-CUR: the block takes the cell's foreground ink. -/
theorem test_cursor_block :
    State.overlayCursor { withRegs [(15, 1)] with cursorEnabledWindow := true, cursorVisible := true } 1
      (State.reset.mdaCell 0x41 0x70 0x18 5) = [0, 0, 0, 0, 0, 0, 0, 0, 0] ∧
    State.overlayCursor { withRegs [(15, 1)] with cursorVisible := true } 1
      (State.reset.mdaCell 0x41 0x70 0x18 5) = [7, 7, 7, 0, 0, 7, 7, 7, 7] := by decide

/-- V-CUR: the gate for modes 0 to 3. -/
theorem test_cursor_gate :
    ([(0x0B, 8), (0x0B, 7), (0x2B, 8), (0x4B, 8), (0x6B, 0x10), (0x6B, 8)].map fun (p : Byte × BitVec 32) =>
      State.cursorGate { withRegs [(10, p.1)] with blinkCounter := p.2 }) = [true, false, false, true, true, false] := by
  decide

/-- V-GFX, the rows of bank 0x6000, of page 1, and of the address that wraps. -/
theorem test_graphics_lines :
    State.renderGraphics { withRegs [(1, 1)] with mode := 0x0A, modeExt := 3, memoryAddress := 0x1000, vram := [(0x6000, 0xAA), (0x6001, 0x55)] } 3 =
      ([7, 0, 7, 0, 7, 0, 7, 0, 0, 7, 0, 7, 0, 7, 0, 7], 0x1001) ∧
    (State.renderGraphics { withRegs [(1, 1)] with mode := 0x8A, modeExt := 3, vram := [(0xC000, 0xFF), (0xC001, 0xFF)] } 2).1 =
      List.replicate 16 7 ∧
    State.renderGraphics { withRegs [(1, 1)] with mode := 0x0A, modeExt := 3, memoryAddress := 0x3FFF, vram := [(0x3FFE, 0x0F), (0x3FFF, 0xF0)] } 1 =
      ([0, 0, 0, 0, 7, 7, 7, 7, 7, 7, 7, 7, 0, 0, 0, 0], 0) := by decide

/-- Rule R110's own lines, and the expansion of `line` and `crtc` (rule R111). -/
theorem test_script :
    scriptLine Params.default (.iowConfig 3) 0 = "out 0xf, 0x3" ∧
    scriptLine Params.default .speed 3 = "speed scale=0x3" ∧
    expandPseudo .line = [.tick, .tick] ∧ expandPseudo (.crtc 10 6) = [.iowIndex 4 10, .iowData 5 6] := by decide

/-! ### Witnesses: a concrete state and operands that meet every hypothesis of a statement

`witness_X` is for the statement `Obligations.X`; where it has several clauses, there is one conjunct for each, at a
boundary of its range. -/

/-- A live device at the start of an active half that ends a row, with these registers. -/
def rowEnding (l : List (BitVec 5 × Byte)) : State := { withRegs l with lineInFramePosition := true }

/-- A live device at the start of a frame of rule R165: 2 rows of 1 scanline, both halves pending. -/
def frameStart : State :=
  { withRegs [(4, 1), (6, 1), (7, 1)] with verticalCounter := 1, pending := List.replicate 4 tickRequest ++ [] }

theorem witness_DecodeOfEncodeIsTheInstruction :
    Params.default.PortsLegal ∧ movedPorts.PortsLegal ∧ Instr.wf (.iowData 7 0xFF) = true := by decide

theorem witness_DecodedWordsAreEncodingsUpToIgnoredFields :
    Params.default.PortsLegal ∧
    decode Params.default 0x00000FFF = .ok (.iowConfig 0xFF) ∧ decode Params.default 0x2FFFFFFF = .error .reservedBits ∧
    decode Params.default 0x20FFFFFF = .ok (.memw 0xFFFF 0xFF) ∧
    decode Params.default 0x100006FF = .ok (.iorIndex 6) ∧
    decode Params.default 0x30FFFFFF = .ok (.memr 0xFFFF) ∧ decode Params.default 0x70FFFFFF = .ok .speed := by decide

theorem witness_ExactlyTheIllegalWordsAreRefused :
    (sending State.reset [0x80000000]).pending = [{ word := 0x80000000 }] ∧
    8 ≤ ((0x80000000 : Word32).extractLsb' 28 4).toNat ∧ (0x71000000 : Word32).extractLsb' 24 4 ≠ 0 ∧
    (((0x10001A00 : Word32).extractLsb' 28 4).toNat ≤ 1 ∧ (0x10001A00 : Word32).extractLsb' 12 12 ≠ 0) := by decide

theorem witness_StepRunsTheDecodedTransaction :
    (sending State.reset [0x70000000]).pending = { word := 0x70000000 } :: [] ∧
    decode (sending State.reset [0x70000000]).params 0x70000000 = .ok .speed ∧
    State.reset.pending = [] := by decide

theorem witness_TransactionsOutsideTheLifetimeAreRefused :
    (State.powerOn.lifecycle = .uncreated ∧ Instr.tick ≠ .init) ∧ State.reset.lifecycle = .live ∧
    ({ State.reset with lifecycle := .closed } : State).lifecycle = .closed := by decide

theorem witness_LiveDeviceRunsEveryTransaction :
    State.reset.lifecycle = .live ∧ Instr.speed ≠ .init ∧ (Instr.speed = .speed → 0 < State.reset.hostTickScale) := by
  decide

theorem witness_DutifulHostIsNeverRefused :
    (sending State.reset [0x70000000, 0x20FFFF01]).lifecycle = .live ∧
    ∀ r ∈ (sending State.reset [0x70000000, 0x20FFFF01]).pending,
      r.dutiful (sending State.reset [0x70000000, 0x20FFFF01]).params = true := by decide

theorem witness_InitLeavesTheResetValues : State.powerOn.lifecycle = .uncreated ∧ 0 < State.powerOn.hostTickScale := by
  decide

theorem witness_InitAndSpeedRefuseScaleZero :
    ({ State.powerOn with hostTickScale := 0 } : State).hostTickScale = 0 ∧
    ({ State.powerOn with hostTickScale := 0 } : State).lifecycle = .uncreated ∧
    ({ State.reset with hostTickScale := 0 } : State).hostTickScale = 0 ∧
    ({ State.reset with hostTickScale := 0 } : State).lifecycle = .live := by decide

theorem witness_CloseOnlyEndsTheDevice : State.reset.lifecycle = .live := by decide

theorem witness_SpeedRescalesBothPeriods :
    (withRegs [(1, 1)]).lifecycle = .live ∧ 0 < (withRegs [(1, 1)]).hostTickScale ∧
    ((withRegs [(1, 1)]).reg 1).toNat ≤ ((withRegs [(1, 1)]).reg 0).toNat + 1 := by decide

theorem witness_SpeedWithNegativeBlankDrawsThePeriod :
    (withRegs [(1, 2)]).lifecycle = .live ∧ 0 < (withRegs [(1, 2)]).hostTickScale ∧
    ((withRegs [(1, 2)]).reg 0).toNat + 1 < ((withRegs [(1, 2)]).reg 1).toNat := by decide

theorem witness_IndexWriteSelectsTheRegister :
    State.reset.lifecycle = .live ∧ ((6 : BitVec 4) = 0 ∨ (6 : BitVec 4) = 2 ∨ (6 : BitVec 4) = 4 ∨ (6 : BitVec 4) = 6) := by
  decide

theorem witness_DataWriteAboveRegister22IsDropped :
    ({ State.reset with crtcIndex := 23 } : State).lifecycle = .live ∧
    22 < ({ State.reset with crtcIndex := 23 } : State).crtcIndex.toNat := by decide

theorem witness_DataWriteStoresCorrectsAndRecomputes :
    ({ State.reset with crtcIndex := 22 } : State).lifecycle = .live ∧
    ({ State.reset with crtcIndex := 22 } : State).crtcIndex.toNat ≤ 22 ∧
    ((7 : BitVec 4) = 1 ∨ (7 : BitVec 4) = 3 ∨ (7 : BitVec 4) = 5 ∨ (7 : BitVec 4) = 7) := by decide

theorem witness_ProgrammingSixThenSevenStoresElevenAndTwelve :
    (sending State.reset [0x0000040A, 0x00000506, 0x0000040B, 0x00000507]).lifecycle = .live ∧
    (sending State.reset [0x0000040A, 0x00000506, 0x0000040B, 0x00000507]).reg 11 ≠ 7 ∧
    (sending State.reset [0x0000040A, 0x00000506, 0x0000040B, 0x00000507]).pending =
      { word := 0x0000040A } :: { word := 0x00000506 } :: { word := 0x0000040B } :: { word := 0x00000507 } :: [] := by
  decide

theorem witness_ModeWriteStoresTheByte :
    State.reset.lifecycle = .live ∧ 8 ≤ State.reset.params.offMode.toNat := by decide

theorem witness_ConfigWriteClaimsAndAnnouncesTheWindow :
    State.reset.lifecycle = .live ∧ 8 ≤ State.reset.params.offConfig.toNat ∧
    State.reset.params.offConfig ≠ State.reset.params.offMode := by decide

theorem witness_UnassignedWritesChangeNothing :
    State.reset.lifecycle = .live ∧
    (8 ≤ (0xE : BitVec 4).toNat ∧ (0xE : BitVec 4) ≠ State.reset.params.offMode ∧
      (0xE : BitVec 4) ≠ State.reset.params.offConfig) ∧
    (8 ≤ (8 : BitVec 4).toNat ∧ (8 : BitVec 4) ≠ movedPorts.offMode ∧ (8 : BitVec 4) ≠ movedPorts.offConfig) ∧
    ((0x9 : BitVec 4), Instr.iowUnassigned9 0xFF) ∈
      [((0x9 : BitVec 4), Instr.iowUnassigned9 0xFF), (0xA, .iowUnassignedA 0xFF), (0xB, .iowUnassignedB 0xFF),
       (0xC, .iowUnassignedC 0xFF), (0xD, .iowUnassignedD 0xFF), (0xE, .iowUnassignedE 0xFF)] := by decide

theorem witness_IndexReadReturnsTheIndex :
    State.reset.lifecycle = .live ∧ ((0 : BitVec 4) = 0 ∨ (0 : BitVec 4) = 2 ∨ (0 : BitVec 4) = 4 ∨ (0 : BitVec 4) = 6) := by
  decide

theorem witness_DataReadReturnsTheRegisterOrAllOnes :
    State.reset.lifecycle = .live ∧ ((7 : BitVec 4) = 1 ∨ (7 : BitVec 4) = 3 ∨ (7 : BitVec 4) = 5 ∨ (7 : BitVec 4) = 7) := by
  decide

theorem witness_StatusReadReturnsThePackedByte :
    State.reset.lifecycle = .live ∧ 8 ≤ State.reset.params.offStatus.toNat := by decide

theorem witness_StatusReadShowsTheTwoFlags :
    ({ State.reset with status := 9 } : State).lifecycle = .live ∧
    ({ State.reset with status := 9 } : State).status &&& 0xF6 = 0 ∧
    ({ State.reset with status := 9 } : State).params.statusId = 0x10 := by decide

theorem witness_UnassignedReadsReturnAllOnes :
    State.reset.lifecycle = .live ∧
    (8 ≤ (0xF : BitVec 4).toNat ∧ (0xF : BitVec 4) ≠ State.reset.params.offStatus) ∧
    (8 ≤ (0xA : BitVec 4).toNat ∧ (0xA : BitVec 4) ≠ movedPorts.offStatus) ∧
    ((0x8 : BitVec 4), Instr.iorUnassigned8) ∈
      [((0x8 : BitVec 4), Instr.iorUnassigned8), (0x9, .iorUnassigned9), (0xB, .iorUnassignedB), (0xC, .iorUnassignedC),
       (0xD, .iorUnassignedD), (0xE, .iorUnassignedE), (0xF, .iorUnassignedF)] := by decide

/-- A witness for each clause: the last index and data ports, the last ignored write and the last unread offset, and a
closed device. -/
theorem witness_PortOffsetsChooseTheirRule :
    State.reset.params.PortsLegal ∧
    ((6 : BitVec 4).toNat < 8 ∧ (6 : BitVec 4).toNat % 2 = 0) ∧ ((7 : BitVec 4).toNat < 8 ∧ (7 : BitVec 4).toNat % 2 = 1) ∧
    State.reset.lifecycle = .live ∧
    (8 ≤ (0xE : BitVec 4).toNat ∧ (0xE : BitVec 4) ≠ State.reset.params.offMode ∧
      (0xE : BitVec 4) ≠ State.reset.params.offConfig) ∧
    (8 ≤ (8 : BitVec 4).toNat ∧ (8 : BitVec 4) ≠ State.reset.params.offStatus) ∧
    ({ State.reset with lifecycle := .closed } : State).lifecycle = .closed := by decide

theorem witness_WindowWriteStoresOneByte :
    State.reset.lifecycle = .live ∧ Memory.wf State.reset.vram = true ∧ State.reset.hostWriteBypass = false := by decide

theorem witness_BypassedWindowWriteIsDiscarded :
    ({ State.reset with hostWriteBypass := true } : State).lifecycle = .live ∧
    ({ State.reset with hostWriteBypass := true } : State).hostWriteBypass = true := by decide

theorem witness_WindowReadReturnsTheByte : State.reset.lifecycle = .live := by decide

theorem witness_WindowRoundTripThroughTicks :
    (sending State.reset [0x20FFFF12, 0x40000000, 0x30FFFF00]).lifecycle = .live ∧
    Memory.wf (sending State.reset [0x20FFFF12, 0x40000000, 0x30FFFF00]).vram = true ∧
    (sending State.reset [0x20FFFF12, 0x40000000, 0x30FFFF00]).pending =
      { word := (0x20 : BitVec 8) ++ (0xFFFF : Offset) ++ (0x12 : Byte) } ::
        (List.replicate 1 tickRequest ++ { word := (0x30 : BitVec 8) ++ (0xFFFF : Offset) ++ (0 : Byte) } :: []) := by
  decide

theorem witness_RoutedAddressesAreWindowOffsets :
    State.reset.params.vramBase % 0x10000 = 0 ∧ State.reset.routeMemory 0xB7FFF = some 0x7FFF ∧ State.reset.routeMemory 0xB8000 = none := by
  decide

theorem witness_RoutedPortsAreBlockOffsets :
    State.reset.routePort 0x3BF = some 0xF ∧ State.reset.routePort 0x3C0 = none ∧ State.reset.routePort 0x3AF = none := by
  decide

theorem witness_EachFieldChangesOnlyByItsWriters :
    Instr.tick ≠ .init ∧ exec .tick State.reset = .next State.reset.advance := ⟨by decide, rfl⟩

theorem witness_OnlyTicksMoveTheScan :
    Instr.iowMode 1 ≠ .init ∧ Instr.iowMode 1 ≠ .tick ∧
    exec (.iowMode 1) State.reset = .next { State.reset with mode := 1 } := ⟨by decide, by decide, rfl⟩

theorem witness_ReservedRegistersAreNeverWritten :
    Instr.iowData 5 1 ≠ .init ∧ 22 < (23 : BitVec 5).toNat ∧
    exec (.iowData 5 1) { State.reset with crtcIndex := 23 } = .next { State.reset with crtcIndex := 23 } :=
  ⟨by decide, by decide, rfl⟩

theorem witness_EventsAreOnlyAppended :
    Instr.tick ≠ .init ∧ exec .tick State.reset = .next State.reset.advance := ⟨by decide, rfl⟩

theorem witness_TickSchedulesItsPeriodAndTogglesTheHalf : State.reset.lifecycle = .live := by decide

theorem witness_BlankHalfOutsideTheDisplay :
    State.reset.lifecycle = .live ∧ State.reset.lineInFramePosition = false ∧ State.reset.displayActive = false := by
  decide

theorem witness_BlankHalfRendersAndEmitsItsLine :
    ({ State.reset with displayActive := true } : State).lifecycle = .live ∧
    ({ State.reset with displayActive := true } : State).lineInFramePosition = false ∧
    ({ State.reset with displayActive := true } : State).displayActive = true := by decide

theorem witness_VisibleBlankHalfWritesOneOutputLine :
    ({ State.reset with displayActive := true } : State).lifecycle = .live ∧
    ({ State.reset with displayActive := true } : State).lineInFramePosition = false ∧
    ({ State.reset with displayActive := true } : State).displayActive = true := by decide

theorem witness_ActiveHalfUpdatesTheStatusFlags :
    (rowEnding []).lifecycle = .live ∧ (rowEnding []).lineInFramePosition = true := by decide

theorem witness_ActiveHalfMovesTheCursorWindow :
    (rowEnding []).lifecycle = .live ∧ (rowEnding []).lineInFramePosition = true := by decide

theorem witness_NextScanlineReloadsTheRowStart :
    (rowEnding [(9, 1)]).lifecycle = .live ∧ (rowEnding [(9, 1)]).lineInFramePosition = true ∧
    (rowEnding [(9, 1)]).verticalAdjustRemaining = 0 ∧
    (rowEnding [(9, 1)]).scanlineCounter.toNat ≠ ((rowEnding [(9, 1)]).reg 9).toNat ∧
    ¬((rowEnding [(9, 1)]).reg 8 &&& 3 = 3 ∧
      (rowEnding [(9, 1)]).scanlineCounter.toNat = ((rowEnding [(9, 1)]).reg 9).toNat / 2) := by decide

theorem witness_AdjustScanlineCountsDown :
    ({ rowEnding [] with verticalAdjustRemaining := 1 } : State).lifecycle = .live ∧
    ({ rowEnding [] with verticalAdjustRemaining := 1 } : State).lineInFramePosition = true ∧
    ({ rowEnding [] with verticalAdjustRemaining := 1 } : State).verticalAdjustRemaining ≠ 0 := by decide

theorem witness_EndOfRowStartsTheNextRow :
    (rowEnding [(4, 1), (7, 2)]).lifecycle = .live ∧ (rowEnding [(4, 1), (7, 2)]).lineInFramePosition = true ∧
    (rowEnding [(4, 1), (7, 2)]).verticalAdjustRemaining = 0 ∧
    (rowEnding [(4, 1), (7, 2)]).scanlineCounter.toNat = ((rowEnding [(4, 1), (7, 2)]).reg 9).toNat ∧
    (rowEnding [(4, 1), (7, 2)]).verticalCounter.toNat ≠ ((rowEnding [(4, 1), (7, 2)]).reg 4).toNat ∧
    ((rowEnding [(4, 1), (7, 2)]).verticalCounter.toNat + 1) % 128 ≠ ((rowEnding [(4, 1), (7, 2)]).reg 7).toNat := by
  decide

theorem witness_FrameWrapRestartsTheRows :
    (rowEnding [(7, 1)]).lifecycle = .live ∧ (rowEnding [(7, 1)]).lineInFramePosition = true ∧
    (rowEnding [(7, 1)]).verticalAdjustRemaining = 0 ∧
    (rowEnding [(7, 1)]).scanlineCounter.toNat = ((rowEnding [(7, 1)]).reg 9).toNat ∧
    (rowEnding [(7, 1)]).verticalCounter.toNat = ((rowEnding [(7, 1)]).reg 4).toNat ∧ (rowEnding [(7, 1)]).reg 7 ≠ 0 := by
  decide

theorem witness_VsyncRowEndsTheFrame :
    (rowEnding [(4, 1), (7, 1)]).lifecycle = .live ∧ (rowEnding [(4, 1), (7, 1)]).lineInFramePosition = true ∧
    (rowEnding [(4, 1), (7, 1)]).verticalAdjustRemaining = 0 ∧
    (rowEnding [(4, 1), (7, 1)]).scanlineCounter.toNat = ((rowEnding [(4, 1), (7, 1)]).reg 9).toNat ∧
    (rowEnding [(4, 1), (7, 1)]).verticalCounter.toNat ≠ ((rowEnding [(4, 1), (7, 1)]).reg 4).toNat ∧
    ((rowEnding [(4, 1), (7, 1)]).verticalCounter.toNat + 1) % 128 = ((rowEnding [(4, 1), (7, 1)]).reg 7).toNat ∧
    (rowEnding [(4, 1), (7, 1)]).reg 7 ≠ 0 := by decide

theorem witness_VsyncRowZeroEndsNoFrame :
    (rowEnding []).lifecycle = .live ∧ (rowEnding []).lineInFramePosition = true ∧
    (rowEnding []).verticalAdjustRemaining = 0 ∧
    (rowEnding []).scanlineCounter.toNat = ((rowEnding []).reg 9).toNat ∧
    (rowEnding []).verticalCounter.toNat = ((rowEnding []).reg 4).toNat ∧ (rowEnding []).reg 7 = 0 ∧
    ({ rowEnding [(4, 5)] with verticalCounter := 127 } : State).verticalCounter.toNat = 127 ∧
    (rowEnding [(4, 5)]).reg 7 = 0 := by decide

theorem witness_CountersWrapAndNeverClamp :
    exec .tick { State.reset with displayLine := 499 } = .next (State.advance { State.reset with displayLine := 499 }) ∧
    ({ State.reset with displayLine := 499 } : State).displayLine < 500 := ⟨rfl, by decide⟩

/-- A sound state in the middle of a frame, with the countdown at the top of its range, which steps. -/
theorem witness_EveryStepKeepsTheStateSound :
    State.Sound { State.reset with status := 9, verticalSyncRemaining := 16, displayLine := 499, firstVisibleLine := 1000 } ∧
    step { State.reset with status := 9, verticalSyncRemaining := 16, displayLine := 499, firstVisibleLine := 1000 } =
      .next { State.reset with status := 9, verticalSyncRemaining := 16, displayLine := 499, firstVisibleLine := 1000 } :=
  ⟨⟨by decide, by decide, by decide, by decide, by decide, by decide, by decide, by decide, by decide, by decide, by decide,
    by decide, by decide, by decide, by decide⟩, rfl⟩

theorem witness_DisplayMemoryDecidesOnlyPixels : State.reset.lifecycle = .live := by decide

theorem witness_ResetRegistersTickInPlace : 0 < 1 := by decide

theorem witness_FramesRepeatWithTheirShape :
    frameStart.lifecycle = .live ∧ frameStart.lineInFramePosition = false ∧ frameStart.verticalAdjustRemaining = 0 ∧
    frameStart.scanlineCounter = 0 ∧ frameStart.displayActive = false ∧ frameStart.displayLine = 0 ∧
    frameStart.verticalCounter.toNat = (frameStart.reg 7).toNat ∧ frameStart.reg 8 &&& 3 ≠ 3 ∧
    (frameStart.reg 9).toNat ≤ 31 ∧ 1 ≤ (frameStart.reg 6).toNat ∧
    (frameStart.reg 6).toNat ≤ (frameStart.reg 7).toNat ∧ (frameStart.reg 7).toNat ≤ (frameStart.reg 4).toNat ∧
    (frameStart.reg 4).toNat ≤ 127 ∧
    frameStart.pending =
      List.replicate (2 * (((frameStart.reg 4).toNat + 1) * ((frameStart.reg 9).toNat + 1) + (frameStart.reg 5).toNat))
        tickRequest ++ [] := by decide

theorem witness_GlyphRowsComeFromTheirSource :
    ((withRegs []).reg 20).getLsbD 0 = false ∧
    (((withRegs [(20, 1)]).reg 20).getLsbD 0 = true ∧ ((withRegs [(20, 1)]).reg 20).getLsbD 2 = false) ∧
    (((withRegs [(20, 5)]).reg 20).getLsbD 0 = true ∧ ((withRegs [(20, 5)]).reg 20).getLsbD 2 = true) := by decide

/-- Pixel 8 of the only cell of a line, with 9 columns. -/
theorem witness_MdaTextPixels :
    0 < ((withRegs [(1, 1)]).reg 1).toNat ∧ 8 < if ((withRegs [(1, 1)]).reg 20).getLsbD 1 then 8 else 9 := by decide

/-- Pixel 8 of the only cell of a line, with 9 columns. -/
theorem witness_ExtendedTextPixels :
    0 < ((withRegs [(1, 1)]).reg 1).toNat ∧ 8 < if ((withRegs [(1, 1)]).reg 20).getLsbD 1 then 8 else 9 := by decide

theorem witness_GraphicsPixels : 0 < ((withRegs [(1, 1)]).reg 1).toNat ∧ 15 < 16 := by decide

theorem witness_DisabledVideoDrawsBlankText : State.reset.mode.getLsbD 3 = false := by decide

end Sys2Proof.Tests
end

/-! The statements of spec/00_scope.md: the port words (O60), the step (O5), the port routing (O31) and the reset
state (O49). -/

namespace Sys2Proof.Proofs

open Sys2Proof.Machine

/-! ### The words of the port transactions (rules R81 and R83) -/

/-- A port word written out as K, 16 zero bits, the offset and D is the transaction word of the zero-extended offset. -/
theorem portWord_eq_transactionWord (k off : BitVec 4) (d : Byte) :
    k ++ (0 : BitVec 16) ++ off ++ d = transactionWord k (off.setWidth 16) d := by
  have hoff : off.toNat % 2 ^ 16 = off.toNat := Nat.mod_eq_of_lt (by omega)
  apply BitVec.eq_of_toNat_eq
  unfold transactionWord
  -- `toNat_append` matches only where the width is written as a sum.
  change BitVec.toNat (w := 4 + 16 + 4 + 8) _ = BitVec.toNat (w := 4 + 4 + 16 + 8) _
  simp only [BitVec.toNat_append, BitVec.toNat_setWidth, hoff]
  simp [← Nat.shiftLeft_add]

/-- The word with K = 0 and an offset runs the port write at that offset. -/
theorem decode_iowWord (p : Params) (off : BitVec 4) (v : Byte) :
    decode p ((0 : BitVec 20) ++ off ++ v) = .ok (decodeIow p off v) := by
  have word : (0 : BitVec 20) ++ off ++ v = encodeIow off v := portWord_eq_transactionWord 0 off v
  rw [word, decode_encodeIow]

/-- The word with K = 1 and an offset runs the port read at that offset, whatever D is (rule R85). -/
theorem decode_iorWord (p : Params) (off : BitVec 4) (d : Byte) :
    decode p ((0x10000 : BitVec 20) ++ off ++ d) = .ok (decodeIor p off) := by
  have word : (0x10000 : BitVec 20) ++ off ++ d = transactionWord 1 (off.setWidth 16) d :=
    portWord_eq_transactionWord 1 off d
  rw [word]
  simp [decode]

/-! ### Which rule a port word runs (rules R87, R88 and R116) -/

/-- The even offsets below 8 are the index ports. -/
theorem isIndexPort_of_even {off : BitVec 4} (h : off.toNat < 8) (heven : off.toNat % 2 = 0) :
    isIndexPort off = true := by
  revert off
  decide

/-- The odd offsets below 8 are the data ports. -/
theorem isDataPort_of_odd {off : BitVec 4} (h : off.toNat < 8) (hodd : off.toNat % 2 = 1) :
    isDataPort off = true := by
  revert off
  decide

/-- No ignored write is a write of the mode or of the configuration register. -/
theorem unassignedWrite_ne_register (row : BitVec 4) (v : Byte) :
    unassignedWrite row v ≠ .iowMode v ∧ unassignedWrite row v ≠ .iowConfig v := by
  unfold unassignedWrite
  split_ifs <;> simp

/-- No read without a function is the status read. -/
theorem unassignedRead_ne_status (row : BitVec 4) : unassignedRead row ≠ .iorStatus := by
  unfold unassignedRead
  split_ifs <;> simp

/-- Only P_OFF_MODE is the mode register's write offset. -/
theorem decodeIow_eq_iowMode_iff {p : Params} (hp : 8 ≤ p.offMode.toNat) (off : BitVec 4) (v : Byte) :
    decodeIow p off v = .iowMode v ↔ off = p.offMode := by
  refine ⟨fun h => ?_, fun h => h ▸ decodeIow_mode v hp⟩
  by_contra hne
  revert h
  unfold decodeIow
  split_ifs <;> simp [unassignedWrite_ne_register]

/-- Only P_OFF_CONFIG is the configuration register's write offset. -/
theorem decodeIow_eq_iowConfig_iff {p : Params} (hp : 8 ≤ p.offConfig.toNat) (hm : p.offConfig ≠ p.offMode)
    (off : BitVec 4) (v : Byte) : decodeIow p off v = .iowConfig v ↔ off = p.offConfig := by
  refine ⟨fun h => ?_, fun h => h ▸ decodeIow_config v hp hm⟩
  by_contra hne
  revert h
  unfold decodeIow
  split_ifs <;> simp [unassignedWrite_ne_register]

/-- Only P_OFF_STATUS is the status register's read offset. -/
theorem decodeIor_eq_iorStatus_iff {p : Params} (hp : 8 ≤ p.offStatus.toNat) (off : BitVec 4) :
    decodeIor p off = .iorStatus ↔ off = p.offStatus := by
  refine ⟨fun h => ?_, fun h => h ▸ decodeIor_status hp⟩
  by_contra hne
  revert h
  unfold decodeIor
  split_ifs <;> simp [unassignedRead_ne_status]

/-! ### What the rows without a function do, and what CLOSE ends -/

/-- Every ignored write leaves the state as it is (rule R122). -/
theorem exec_unassignedWrite (row : BitVec 4) (v : Byte) (s : State) :
    exec (unassignedWrite row v) s = s.whenLive s := by
  unfold unassignedWrite
  split_ifs <;> rfl

/-- Every read without a function returns READ_SENTINEL (rule R126). -/
theorem exec_unassignedRead (row : BitVec 4) (s : State) :
    exec (unassignedRead row) s = s.whenLive (s.answer Config.readSentinel) := by
  unfold unassignedRead
  split_ifs <;> rfl

/-- After CLOSE a transaction that needs a live device is refused. -/
theorem whenLive_closed {s : State} (h : s.lifecycle = .closed) (t : State) :
    s.whenLive t = .refused .afterClose := by
  simp only [State.whenLive, h]

/-- Rule R240: after CLOSE every transaction is refused. -/
theorem exec_closed (i : Instr) {s : State} (h : s.lifecycle = .closed) : exec i s = .refused .afterClose := by
  cases i with
  | init => simp only [exec, execInit, h]
  | speed => simp only [exec, execSpeed, h]
  | _ => exact whenLive_closed h _

/-- Settles O60: the two port words at an offset decode to `decodeIow` and `decodeIor` there, and each clause is what
the port map says of them. -/
theorem portOffsetsChooseTheirRule : Obligations.PortOffsetsChooseTheirRule := by
  intro s off v hp
  obtain ⟨hmode, hstatus, hconfig, hapart⟩ := hp
  refine ⟨decodeIow s.params off v, decodeIor s.params off, decode_iowWord _ _ _, decode_iorWord _ _ _,
    fun hlow heven => ?index, fun hlow hodd => ?data, decodeIow_eq_iowMode_iff hmode off v,
    decodeIow_eq_iowConfig_iff hconfig hapart.symm off v, decodeIor_eq_iorStatus_iff hstatus off,
    fun hlive h8 hm hc => ?ignored, fun hlive h8 hs => ?unread,
    fun hclosed => ⟨exec_closed _ hclosed, exec_closed _ hclosed⟩⟩
  case index =>
    have hport := isIndexPort_of_even hlow heven
    exact ⟨decodeIow_index v hport, decodeIor_index hport⟩
  case data =>
    have hport := isDataPort_of_odd hlow hodd
    exact ⟨decodeIow_data v hport, decodeIor_data hport⟩
  case ignored =>
    rw [decodeIow_unassigned v h8 hm hc, exec_unassignedWrite, State.whenLive_live hlive]
  case unread =>
    rw [decodeIor_unassigned h8 hs, exec_unassignedRead, State.whenLive_live hlive]
    rfl

/-! ### The step -/

/-- Settles O5: `State.accept` is the state the oldest transaction runs in. -/
theorem stepRunsTheDecodedTransaction : Obligations.StepRunsTheDecodedTransaction :=
  ⟨fun _ _ _ _ hpending hdecode => step_runs hpending hdecode, fun _ hidle => step_idle hidle⟩

/-! ### The port routing -/

/-- Rules R9 and R62: an address is routed to an offset exactly where it lies that far above the base; every 4-bit
offset is inside the block. -/
theorem routePort_eq_some_iff (s : State) (address : Nat) (off : BitVec 4) :
    s.routePort address = some off ↔ address = s.params.portBase + off.toNat := by
  have hoff : off.toNat < 16 := off.isLt
  unfold State.routePort
  have hcount : Config.portCount = 16 := rfl
  split_ifs with hin
  · simp only [Option.some.injEq, ← BitVec.toNat_inj, BitVec.toNat_ofNat]
    omega
  · simp only [false_iff]
    omega

/-- Settles O31: the routed offset is the distance from the base, which has 4 bits exactly inside the block. -/
theorem routedPortsAreBlockOffsets : Obligations.RoutedPortsAreBlockOffsets := by
  intro s address
  simp only [routePort_eq_some_iff]
  refine ⟨fun _ h => h, fun ⟨off, h⟩ => ?inside, fun ⟨hlow, hhigh⟩ => ?distance⟩
  case inside =>
    have hoff : off.toNat < 16 := off.isLt
    omega
  case distance =>
    refine ⟨BitVec.ofNat 4 (address - s.params.portBase), ?_⟩
    rw [BitVec.toNat_ofNat]
    omega

/-! ### The reset state -/

/-- Rule R55: every register of the file is 0 after reset. -/
@[simp] theorem reset_reg (i : BitVec 5) : State.reset.reg i = 0 := by
  simp [State.reg, State.reset]

/-- Rule R55: the reset values are those of a sound state. -/
theorem reset_sound : State.reset.Sound where
  vram_canonical := reset_vram_wf
  status_bits := by decide
  line_in_range := by decide
  vsync_in_range := by decide
  scale_positive := by decide
  visible_period := by rw [reset_reg]; rfl
  blank_period _ := by rw [reset_reg, reset_reg]; rfl
  cursor_pair := by simp
  reserved_zero i _ := reset_reg i
  window_follows := rfl
  palette_default := rfl
  pal_cursor_zero := rfl
  pal_disabled := rfl
  first_line := .inl (by decide)
  last_line := by decide

/-- The defaults of rule R8 meet what the specification asks of the parameters. -/
theorem default_legal : Params.default.Legal := by decide

/-- Settles O49. -/
theorem resetStateIsSound : Obligations.ResetStateIsSound := ⟨reset_sound, default_legal⟩

end Sys2Proof.Proofs

/-! The statements of spec/10_state.md: what every step keeps (O50), what display memory decides (O51), who writes which
field (O32 to O35), the status byte (O24), the output lines (O39), INIT (O9) and the configuration write (O19). -/

namespace Sys2Proof.Machine

/-! ### What a transaction that has a result does -/

/-- Everything a transaction can do, where it has a result (rule R240). It bounds the effects: which transactions are
ignored writes or reads, and which byte a read returns, is not said, since the proofs below do not turn on it. -/
inductive Runs (s : State) : Instr → State → Prop
  /-- The effect of the writes without a function (rule R122). -/
  | unchanged (i : Instr) : Runs s i s
  /-- The effect of the reads (rules R123 to R126 and R215). -/
  | answer (i : Instr) (b : Byte) : Runs s i (s.answer b)
  | writeIndex (off : BitVec 4) (v : Byte) : Runs s (.iowIndex off v) (s.writeIndex v)
  | writeData (off : BitVec 4) (v : Byte) : Runs s (.iowData off v) (s.writeData v)
  | writeMode (v : Byte) : Runs s (.iowMode v) (s.writeMode v)
  | writeConfig (v : Byte) : Runs s (.iowConfig v) (s.writeConfig v)
  | windowWrite (a : Offset) (v : Byte) : Runs s (.memw a v) (s.windowWrite a v)
  | advance : Runs s .tick s.advance
  | close : Runs s .close (s.withLifecycle .closed)
  | changeSpeed (hscale : 0 < s.hostTickScale) : Runs s .speed s.changeSpeed
  | launch (hnone : s.lifecycle = .uncreated) (hscale : 0 < s.hostTickScale) : Runs s .init s.resetDevice.launch

/-- A transaction that needs a live device has the effect `t` where it has a result. -/
theorem Runs.of_whenLive {s t u : State} {i : Instr} (hrun : Runs s i t) (h : s.whenLive t = .next u) : Runs s i u := by
  obtain ⟨-, rfl⟩ := State.whenLive_next h
  exact hrun

/-- A transaction that needs a positive scale has a result only with one. -/
theorem State.whenScalePositive_next {s t u : State} (h : s.whenScalePositive (.next t) = .next u) :
    0 < s.hostTickScale ∧ u = t := by
  unfold State.whenScalePositive at h
  split at h
  · cases h
  · next hne => exact ⟨Nat.pos_of_ne_zero hne, (Host.Outcome.next.inj h).symm⟩

/-- Where a transaction has a result, it is one of the effects above. -/
theorem runs_of_exec {i : Instr} {s t : State} (h : exec i s = .next t) : Runs s i t := by
  cases i with
  | iowIndex off v => exact .of_whenLive (.writeIndex off v) h
  | iowData off v => exact .of_whenLive (.writeData off v) h
  | iowMode v => exact .of_whenLive (.writeMode v) h
  | iowConfig v => exact .of_whenLive (.writeConfig v) h
  | iowUnassigned9 | iowUnassignedA | iowUnassignedB | iowUnassignedC | iowUnassignedD | iowUnassignedE =>
    exact .of_whenLive (.unchanged _) h
  | memw a v => exact .of_whenLive (.windowWrite a v) h
  | tick => exact .of_whenLive .advance h
  | close => exact .of_whenLive .close h
  | speed =>
    cases hl : s.lifecycle with
    | live =>
      simp only [exec, execSpeed, hl] at h
      obtain ⟨hscale, rfl⟩ := State.whenScalePositive_next h
      exact .changeSpeed hscale
    | uncreated | closed => simp [exec, execSpeed, hl] at h
  | init =>
    cases hl : s.lifecycle with
    | uncreated =>
      simp only [exec, execInit, hl] at h
      obtain ⟨hscale, rfl⟩ := State.whenScalePositive_next h
      exact .launch hl hscale
    | live | closed => simp [exec, execInit, hl] at h
  | _ => exact .of_whenLive (.answer _ _) h

/-! ### What the port and lifecycle effects write -/

/-- Rules R118 and R119: a data write changes registers, periods and the draw counter only. -/
theorem State.writeData_frame (s : State) (v : Byte) : ∃ regs visible blank draws, s.writeData v =
    { s with crtc := regs, visiblePeriodTicks := visible, blankPeriodTicks := blank, drawCount := draws } := by
  by_cases hi : s.crtcIndex.toNat ≤ 22
  · obtain ⟨blank, draws, hperiods⟩ := (s.setReg s.crtcIndex v).cursorCorrection.recomputeTiming_cases
    rw [State.writeData_accepted hi, hperiods, State.cursorCorrection_frame]
    exact ⟨_, _, blank, draws, rfl⟩
  · exact ⟨_, _, _, _, State.writeData_dropped (by omega) v⟩

/-- Rule R241: a speed change writes the scale, the periods and the draw counter only. -/
theorem State.changeSpeed_frame (s : State) : ∃ visible blank draws, s.changeSpeed =
    { s with tickScale := s.hostTickScale, visiblePeriodTicks := visible, blankPeriodTicks := blank,
             drawCount := draws } := by
  obtain ⟨blank, draws, hperiods⟩ := (s.withScale s.hostTickScale).recomputeTiming_cases
  exact ⟨_, blank, draws, hperiods⟩

/-- Rules R213 and R214: a window write changes VRAM only. -/
theorem State.windowWrite_frame (s : State) (a : Offset) (v : Byte) :
    ∃ m, s.windowWrite a v = { s with vram := m } := by
  unfold State.windowWrite
  split
  · exact ⟨s.vram, rfl⟩
  · exact ⟨_, rfl⟩

/-- Rules R50 and R121: the window a configuration write claims, and its size in the event. -/
theorem State.writeConfig_eq (s : State) (v : Byte) : s.writeConfig v =
    { s with modeExt := v, claimedWindow := if v.getLsbD 1 then .w64K else .w32K,
             events := s.events ++ [.mapWindow s.params.vramBase (if v.getLsbD 1 then 65536 else 32768)] } := by
  have hbytes : Window.bytes (if v.getLsbD 1 then .w64K else .w32K) = if v.getLsbD 1 then 65536 else 32768 :=
    apply_ite Window.bytes _ _ _
  rw [← hbytes]
  rfl

/-- Rule R55: every register of the file is 0 after the reset of INIT. -/
@[simp] theorem State.resetDevice_reg (s : State) (i : BitVec 5) : s.resetDevice.reg i = 0 := Proofs.reset_reg i

/-- Rule R236: with all registers 0 the visible period is 0 and the blank period one scale. -/
theorem State.launch_resetDevice (s : State) : s.resetDevice.launch =
    ((((s.resetDevice.withScale s.hostTickScale).announce).withPeriods 0 s.hostTickScale)).withLifecycle .live := by
  have hreg : ∀ i, (s.resetDevice.withScale s.hostTickScale).announce.reg i = 0 := s.resetDevice_reg
  have hscale : (s.resetDevice.withScale s.hostTickScale).announce.tickScale = s.hostTickScale := rfl
  change ((s.resetDevice.withScale s.hostTickScale).announce.recomputeTiming).withLifecycle .live = _
  rw [State.recomputeTiming_of_le _ (by simp [hreg])]
  simp [hreg, hscale]

/-- Rules R118 and R119: the registers after a data write. -/
theorem State.writeData_reg (s : State) (v : Byte) (hi : s.crtcIndex.toNat ≤ 22) (j : BitVec 5) :
    (s.writeData v).reg j = (s.setReg s.crtcIndex v).cursorCorrection.reg j := by
  obtain ⟨blank, draws, hperiods⟩ := (s.setReg s.crtcIndex v).cursorCorrection.recomputeTiming_cases
  rw [State.writeData_accepted hi, hperiods]
  rfl

/-- Rule R247: the correction leaves no pair (6, 7). -/
theorem State.cursorCorrection_pair (s : State) :
    ¬(s.cursorCorrection.reg 10 = 6 ∧ s.cursorCorrection.reg 11 = 7) := by
  rw [s.cursorCorrection_reg, s.cursorCorrection_reg]
  by_cases hpair : s.reg 10 = 6 ∧ s.reg 11 = 7
  · rw [if_pos hpair, if_pos rfl]
    exact fun h67 => absurd h67.1 (by decide)
  · rwa [if_neg hpair, if_neg hpair]

/-- Rule R26: an accepted register write and its correction reach no register above 22. -/
theorem State.storeRegister_reserved (s : State) (v : Byte) (hi : s.crtcIndex.toNat ≤ 22) {j : BitVec 5}
    (hj : 22 < j.toNat) : (s.setReg s.crtcIndex v).cursorCorrection.reg j = s.reg j := by
  have hstored : j ≠ s.crtcIndex := by rintro rfl; omega
  have h10 : j ≠ 10 := by rintro rfl; simp at hj
  have h11 : j ≠ 11 := by rintro rfl; simp at hj
  rw [State.cursorCorrection_reg, State.setReg_reg _ _ j, if_neg h10, if_neg h11, if_neg hstored, ite_self]

/-- Rule R26: a data write reaches no register above 22. -/
theorem State.writeData_reserved (s : State) (v : Byte) {j : BitVec 5} (hj : 22 < j.toNat) :
    (s.writeData v).reg j = s.reg j := by
  by_cases hi : s.crtcIndex.toNat ≤ 22
  · rw [s.writeData_reg v hi, s.storeRegister_reserved v hi hj]
  · rw [State.writeData_dropped (by omega)]

/-! ### Soundness of the fields a tick writes -/

/-- What `State.Sound` says of the fields that ticks write. -/
structure State.ScanSound (s : State) : Prop where
  status_bits : s.status &&& 0xF6 = 0
  line_in_range : s.displayLine < 500
  vsync_in_range : s.verticalSyncRemaining.toNat ≤ 16
  first_line : (0 ≤ s.firstVisibleLine ∧ s.firstVisibleLine < 500) ∨ s.firstVisibleLine = s.params.firstReset
  last_line : 0 ≤ s.lastVisibleLine ∧ s.lastVisibleLine < 500

/-- Rule R31: a bit outside the mask of the unused bits can be set. -/
theorem statusBits_or {x y : Byte} (hx : x &&& 0xF6 = 0) (hy : y &&& 0xF6 = 0) : (x ||| y) &&& 0xF6 = 0 := by
  rw [BitVec.and_or_distrib_right, hx, hy]
  rfl

/-- Rule R31: any bits can be cleared. -/
theorem statusBits_and {x : Byte} (hx : x &&& 0xF6 = 0) (y : Byte) : (x &&& y) &&& 0xF6 = 0 := by
  rw [BitVec.and_assoc, BitVec.and_comm y, ← BitVec.and_assoc, hx]
  exact BitVec.zero_and

namespace State.ScanSound

theorem ite {c : Prop} [Decidable c] {t u : State} (ht : t.ScanSound) (hu : u.ScanSound) :
    (if c then t else u).ScanSound := by
  split
  · exact ht
  · exact hu

variable {s : State} (h : s.ScanSound)
include h

/-! #### The blank half -/

theorem schedule (p : Nat) : (s.schedule p).ScanSound := { h with }

theorem enterBlankHalf : s.enterBlankHalf.ScanSound :=
  { h with status_bits := statusBits_or h.status_bits rfl }

/-- Rule R141: both visible lines become the output line, if they are written. -/
theorem visibleLineBookkeeping : s.visibleLineBookkeeping.ScanSound := by
  have hline : 0 ≤ (s.displayLine : Int) ∧ (s.displayLine : Int) < 500 :=
    ⟨Int.natCast_nonneg _, by exact_mod_cast h.line_in_range⟩
  by_cases hfirst : (s.displayLine : Int) < s.firstVisibleLine
  · rw [s.visibleLineBookkeeping_first hfirst]
    exact { h with first_line := .inl hline, last_line := hline }
  · rw [s.visibleLineBookkeeping_later hfirst]
    exact { h with last_line := hline }

theorem renderAndEmit (row : Row) : (s.renderAndEmit row).ScanSound := { h with }

theorem renderVisible (row : Row) : (s.renderVisible row).ScanSound :=
  .ite (h.visibleLineBookkeeping.renderAndEmit row) h

theorem vsyncStart : s.vsyncStart.ScanSound := .ite { h with status_bits := statusBits_or h.status_bits rfl } h

/-- Rule R144: the output line is a remainder mod 500. -/
theorem advanceDisplayLine : s.advanceDisplayLine.ScanSound :=
  { h with line_in_range := Nat.mod_lt _ (by decide) }

theorem blankHalf : s.blankHalf.ScanSound :=
  (((h.schedule _).enterBlankHalf.renderVisible _).vsyncStart).advanceDisplayLine

/-! #### The active half -/

theorem leaveScanline : s.leaveScanline.ScanSound := by
  rw [s.leaveScanline_eq]
  exact { h with status_bits := statusBits_and h.status_bits _ }

/-- Rule R147: the countdown only goes down. -/
theorem vsyncCountdown : s.vsyncCountdown.ScanSound := by
  have hle := h.vsync_in_range
  have hcount : (s.verticalSyncRemaining - if s.verticalSyncRemaining = 0 then 0 else 1).toNat ≤ 16 := by
    split_ifs <;> bv_omega
  rw [s.vsyncCountdown_eq]
  exact { h with status_bits := statusBits_and h.status_bits _, vsync_in_range := hcount }

theorem cursorOffBoundary : s.cursorOffBoundary.ScanSound := .ite { h with } h

theorem openActiveHalf : s.openActiveHalf.ScanSound :=
  (h.schedule _).leaveScanline.vsyncCountdown.cursorOffBoundary

theorem nextScanline : s.nextScanline.ScanSound := { h with }

theorem withAdjust (n : Byte) : (s.withAdjust n).ScanSound := { h with }

theorem restartDisplay : s.restartDisplay.ScanSound := { h with }

theorem adjustLine : s.adjustLine.ScanSound :=
  .ite { (h.nextScanline.withAdjust 0).restartDisplay with } (h.nextScanline.withAdjust _)

theorem frameWrap : s.frameWrap.ScanSound := by
  have hrow : ((s.withRow 0).withAdjust (s.reg 5)).ScanSound := { h with }
  exact { ite (c := s.reg 5 = 0) hrow.restartDisplay hrow with }

theorem wrapRows : s.wrapRows.ScanSound := by
  have hrow : s.startNextRow.displayedRowsDone.ScanSound := .ite { h with } { h with }
  exact .ite hrow.frameWrap hrow

theorem resizeIfChanged (w l : Int) : (s.resizeIfChanged w l).ScanSound := .ite { h with } h

/-- Rule R158: the bookkeeping of the visible lines restarts. -/
theorem resetFrameBookkeeping : s.resetFrameBookkeeping.ScanSound :=
  { h with first_line := .inr rfl, last_line := ⟨Int.le_refl 0, Int.ofNat_lt.2 (by decide)⟩ }

theorem frameEnd : s.frameEnd.ScanSound := by
  have hblit : ((s.resizeIfChanged s.frameWidth s.frameHeight).blitFrame s.frameHeight).ScanSound :=
    { h.resizeIfChanged s.frameWidth s.frameHeight with }
  exact hblit.resetFrameBookkeeping

/-- Rule R154: the output line restarts and the countdown is armed to 16. -/
theorem vsyncRow : s.vsyncRow.ScanSound := by
  have harmed : (((s.withDisplay false).withDisplayLine 0).withVsync Config.vsyncLines).ScanSound :=
    { h with line_in_range := Nat.zero_lt_succ _, vsync_in_range := Nat.le_refl 16 }
  exact .ite harmed harmed.frameEnd

theorem endOfRow : s.endOfRow.ScanSound := .ite h.wrapRows.vsyncRow h.wrapRows

theorem endScanline : s.endScanline.ScanSound := .ite h.adjustLine (.ite h.endOfRow h.nextScanline)

theorem cursorOnBoundary : s.cursorOnBoundary.ScanSound := .ite { h with } h

theorem activeHalf : s.activeHalf.ScanSound := h.openActiveHalf.endScanline.cursorOnBoundary

theorem advance : s.advance.ScanSound := .ite h.activeHalf h.blankHalf

end State.ScanSound

/-! ### Soundness of every transaction -/

namespace State.Sound

variable {s : State}

/-- Rules R161 to R163: a state that is sound with the periods of its registers and scale is sound once they are
recomputed. -/
theorem recomputeTiming (h : (s.withPeriods ((s.reg 1).toNat * s.tickScale)
    (((s.reg 0).toNat + 1 - (s.reg 1).toNat) * s.tickScale)).Sound) : s.recomputeTiming.Sound := by
  by_cases hle : (s.reg 1).toNat ≤ (s.reg 0).toNat + 1
  · rw [s.recomputeTiming_of_le hle]
    exact h
  · rw [s.recomputeTiming_of_lt (by omega)]
    exact { h with blank_period := fun hle' => absurd hle' hle }

/-- Rule R236: INIT makes a sound state of any. -/
theorem launch (hscale : 0 < s.hostTickScale) : s.resetDevice.launch.Sound := by
  rw [s.launch_resetDevice]
  have hreg (i : BitVec 5) : (((s.resetDevice.withScale s.hostTickScale).announce.withPeriods 0
      s.hostTickScale).withLifecycle .live).reg i = 0 := s.resetDevice_reg i
  exact { Proofs.reset_sound with
    scale_positive := hscale
    visible_period := by rw [hreg]; exact (Nat.zero_mul _).symm
    blank_period := fun _ => by rw [hreg, hreg]; exact (Nat.one_mul _).symm
    palette_default := rfl
    first_line := .inl Proofs.reset_sound.last_line }

variable (h : s.Sound)
include h

theorem scanSound : s.ScanSound := { h with }

/-- Ticks write only the fields of `State.ScanSound` among those that soundness speaks of. -/
theorem advance : s.advance.Sound := by
  have hset := s.advance_setup
  exact { h.scanSound.advance with
    vram_canonical := by rw [hset.vram]; exact h.vram_canonical
    scale_positive := by rw [hset.tickScale]; exact h.scale_positive
    visible_period := by rw [hset.visiblePeriodTicks, hset.reg, hset.tickScale]; exact h.visible_period
    blank_period := by
      rw [hset.blankPeriodTicks, hset.reg, hset.reg, hset.tickScale]
      exact h.blank_period
    cursor_pair := by rw [hset.reg, hset.reg]; exact h.cursor_pair
    reserved_zero := fun i hi => by rw [hset.reg]; exact h.reserved_zero i hi
    window_follows := by rw [hset.claimedWindow, hset.modeExt]; exact h.window_follows
    palette_default := by rw [hset.palette, hset.params]; exact h.palette_default
    pal_cursor_zero := by rw [hset.palExtCursor]; exact h.pal_cursor_zero
    pal_disabled := by rw [hset.palExtEnable]; exact h.pal_disabled }

/-- Rule R241. -/
theorem changeSpeed (hscale : 0 < s.hostTickScale) : s.changeSpeed.Sound :=
  .recomputeTiming
    { h with scale_positive := hscale, visible_period := rfl, blank_period := fun _ => rfl }

/-- Rules R118 and R119. -/
theorem writeData (v : Byte) : (s.writeData v).Sound := by
  by_cases hi : s.crtcIndex.toNat ≤ 22
  · have hreserved (j : BitVec 5) (hj : 22 < j.toNat) : (s.setReg s.crtcIndex v).cursorCorrection.reg j = 0 :=
      (s.storeRegister_reserved v hi hj).trans (h.reserved_zero j hj)
    have hpair := (s.setReg s.crtcIndex v).cursorCorrection_pair
    rw [State.writeData_accepted hi]
    apply State.Sound.recomputeTiming
    rw [State.cursorCorrection_frame] at hreserved hpair ⊢
    exact { h with
      visible_period := rfl
      blank_period := fun _ => rfl
      cursor_pair := hpair
      reserved_zero := hreserved }
  · rw [State.writeData_dropped (by omega)]
    exact h

/-- Rules R50 and R121. -/
theorem writeConfig (v : Byte) : (s.writeConfig v).Sound := by
  rw [s.writeConfig_eq]
  exact { h with window_follows := rfl }

/-- Rules R213 and R214. -/
theorem windowWrite (a : Offset) (v : Byte) : (s.windowWrite a v).Sound := by
  unfold State.windowWrite
  split
  · exact h
  · exact { h with vram_canonical := s.memWrite_keeps_wf a v h.vram_canonical }

/-- Every transaction that has a result keeps soundness. -/
theorem of_runs {i : Instr} {t : State} (hrun : Runs s i t) : t.Sound := by
  cases hrun with
  | unchanged => exact h
  | answer | writeIndex | writeMode | close => exact { h with }
  | writeData off v => exact h.writeData v
  | writeConfig v => exact h.writeConfig v
  | windowWrite a v => exact h.windowWrite a v
  | advance => exact h.advance
  | changeSpeed hscale => exact h.changeSpeed hscale
  | launch hnone hscale => exact .launch hscale

/-- Taking a transaction from the queue changes no device field but the reply. -/
theorem accept (r : Request) (rest : List Request) : (s.accept r rest).Sound := { h with }

end State.Sound

/-! ### What display memory decides -/

/-- Two events agree, but for the pixels of a line (rule R54). -/
def Event.SameButPixels (e e' : Event) : Prop :=
  e' = e ∨ ∃ n px px', e = .line n px ∧ e' = .line n px' ∧ px'.length = px.length

/-- The state with other display memory and other events. -/
def State.replaceMemory (s : State) (m : Memory) (es : List Event) : State := { s with vram := m, events := es }

/-- `u` is `t` with other display memory, and event by event they have appended the same to `base`, but for pixels. -/
def State.SameButPixels (base : List Event) (t u : State) : Prop :=
  ∃ m new new', t.events = base ++ new ∧ u = t.replaceMemory m (base ++ new') ∧
    List.Forall₂ Event.SameButPixels new new'

/-- The step `f` does not depend on display memory and emits no event. -/
def State.Silent (f : State → State) : Prop :=
  ∀ t m es, f (t.replaceMemory m es) = (f t).replaceMemory m es

theorem State.Silent.events {f : State → State} (hf : State.Silent f) (t : State) : (f t).events = t.events := by
  have hsame := congrArg State.events (hf t t.vram t.events)
  exact hsame

/-- What `f` reads of a state is neither display memory nor the events. -/
def State.Blind {α : Type} (f : State → α) : Prop := ∀ t m es, f (t.replaceMemory m es) = f t

/-- Rules R198 and R210: the pixels of a line, by the strategy. -/
theorem State.renderLine_length (s : State) (row : Row) : (s.renderLine row).1.length =
    s.columns * if s.graphicsMode then 16 else s.cellWidth := by
  unfold State.renderLine
  split
  · exact lineCells_length _ (fun _ => s.cellPixels_length _) _ _
  · split <;> refine lineCells_length _ (s.textCell_length (fun c a r => ?_) row) _ _
    · exact s.mdaCell_length _ _ _ _
    · exact s.mdaCell_length _ _ _ _
    · exact s.cell48KOf_length _ _ _ _

namespace State.SameButPixels

/-- A state with other display memory, before anything is appended. -/
theorem start (s : State) (m : Memory) : SameButPixels s.events s { s with vram := m } :=
  ⟨m, [], [], (List.append_nil _).symm, by rw [List.append_nil]; rfl, .nil⟩

variable {base : List Event} {t u : State}

/-- Both take the same branch. -/
theorem ite {c : Prop} [Decidable c] {t' u' : State} (h : SameButPixels base t u) (h' : SameButPixels base t' u') :
    SameButPixels base (if c then t else t') (if c then u else u') := by
  split
  · exact h
  · exact h'

variable (h : SameButPixels base t u)
include h

theorem silent {f : State → State} (hf : State.Silent f) : SameButPixels base (f t) (f u) := by
  obtain ⟨m, new, new', ht, rfl, hnew⟩ := h
  exact ⟨m, new, new', (hf.events t).trans ht, hf t m _, hnew⟩

theorem emit {e e' : Event} (he : e.SameButPixels e') : SameButPixels base (t.emit e) (u.emit e') := by
  obtain ⟨m, new, new', ht, rfl, hnew⟩ := h
  refine ⟨m, new ++ [e], new' ++ [e'], ?_, ?_, List.rel_append hnew (.cons he .nil)⟩
  · rw [State.emit_events, ht, List.append_assoc]
  · rw [← List.append_assoc]
    rfl

/-- What reads neither display memory nor events has the same value in both. -/
theorem agree {α : Type} (f : State → α) (hf : State.Blind f) : f u = f t := by
  obtain ⟨m, new, new', ht, rfl, hnew⟩ := h
  exact hf t m _

/-! #### The blank half -/

theorem schedule (f : State → Nat) (hf : State.Blind f) :
    SameButPixels base (t.schedule (f t)) (u.schedule (f u)) := by
  have hemit := h.emit (.inl (rfl : Event.schedule (f t) = _))
  have htime := h.agree State.accumulatedDeviceTime fun _ _ _ => rfl
  unfold State.schedule
  rw [h.agree f hf, htime]
  exact hemit.silent (f := (State.withDeviceTime · _)) fun _ _ _ => rfl

theorem visibleLineBookkeeping : SameButPixels base t.visibleLineBookkeeping u.visibleLineBookkeeping := by
  have hline := h.agree State.displayLine fun _ _ _ => rfl
  have hfirst := h.agree State.firstVisibleLine fun _ _ _ => rfl
  unfold State.visibleLineBookkeeping
  rw [hline, hfirst]
  have hstored := h.silent (f := (State.withFirstLine · t.displayLine)) fun _ _ _ => rfl
  have hwait := hstored.emit (.inl (rfl : Event.waitForBuffer = _))
  exact (ite hwait h).silent (f := (State.withLastLine · _)) fun _ _ _ => rfl

/-- Rule R142: a line has the same number, length and end address, whatever display memory holds. -/
theorem renderAndEmit (row : Row) : SameButPixels base (t.renderAndEmit row) (u.renderAndEmit row) := by
  have haddress := h.agree (fun s => (s.renderLine row).2) fun _ _ _ => by
    simp only [State.renderLine_address]; rfl
  have hlength := h.agree (fun s => (s.renderLine row).1.length) fun _ _ _ => by
    simp only [State.renderLine_length]; rfl
  have hline := h.agree State.displayLine fun _ _ _ => rfl
  unfold State.renderAndEmit
  rw [haddress, hline]
  exact (h.silent (f := (State.withAddress · _)) fun _ _ _ => rfl).emit (.inr ⟨_, _, _, rfl, rfl, hlength⟩)

theorem renderVisible (row : Row) : SameButPixels base (t.renderVisible row) (u.renderVisible row) := by
  have hon := h.agree State.displayActive fun _ _ _ => rfl
  unfold State.renderVisible
  rw [hon]
  exact ite (h.visibleLineBookkeeping.renderAndEmit row) h

theorem blankHalf : SameButPixels base t.blankHalf u.blankHalf := by
  have hscheduled := h.schedule State.blankPeriodTicks fun _ _ _ => rfl
  have hopened := hscheduled.silent (f := State.enterBlankHalf) fun _ _ _ => rfl
  have hrow := h.agree State.renderRow fun _ _ _ => rfl
  have hvsync := (hopened.renderVisible t.renderRow).silent (f := State.vsyncStart) fun _ _ _ => by
    simp only [State.vsyncStart_eq]; rfl
  unfold State.blankHalf
  rw [hrow]
  exact hvsync.silent (f := State.advanceDisplayLine) fun _ _ _ => rfl

/-! #### The active half -/

theorem openActiveHalf : SameButPixels base t.openActiveHalf u.openActiveHalf := by
  have hperiod := h.schedule State.visiblePeriodTicks fun _ _ _ => rfl
  unfold State.openActiveHalf
  refine ((hperiod.silent (f := State.leaveScanline) fun _ _ _ => ?leave).silent
    (f := State.vsyncCountdown) fun _ _ _ => ?count).silent (f := State.cursorOffBoundary) fun _ _ _ => ?cursor
  case leave => simp only [State.leaveScanline_eq]; rfl
  case count => simp only [State.vsyncCountdown_eq]; rfl
  case cursor => simp only [State.cursorOffBoundary_eq]; rfl

theorem adjustLine : SameButPixels base t.adjustLine u.adjustLine := by
  have hleft := h.agree State.verticalAdjustRemaining fun _ _ _ => rfl
  have hnext := h.silent (f := State.nextScanline) fun _ _ _ => rfl
  unfold State.adjustLine
  rw [hleft]
  exact ite (hnext.silent (f := fun s => ((s.withAdjust 0).restartDisplay).withScanline 0) fun _ _ _ => rfl)
    (hnext.silent (f := (State.withAdjust · _)) fun _ _ _ => rfl)

theorem wrapRows : SameButPixels base t.wrapRows u.wrapRows := by
  have hnext := h.silent (f := State.startNextRow) fun _ _ _ => rfl
  have hrow := hnext.silent (f := State.displayedRowsDone) fun _ _ _ => by
    simp only [State.displayedRowsDone_eq]; rfl
  have hwrap := hrow.silent (f := State.frameWrap) fun _ _ _ => by simp only [State.frameWrap_eq]; rfl
  have hlast := h.agree (State.atRow · 4) fun _ _ _ => rfl
  unfold State.wrapRows
  rw [hlast]
  exact ite hwrap hrow

theorem resizeIfChanged (w l : Int) : SameButPixels base (t.resizeIfChanged w l) (u.resizeIfChanged w l) := by
  have hw := h.agree State.screenW fun _ _ _ => rfl
  have hh := h.agree State.screenH fun _ _ _ => rfl
  have hcw := h.agree (State.clampWidth · w) fun _ _ _ => rfl
  have hch := h.agree (State.clampHeight · l) fun _ _ _ => rfl
  unfold State.resizeIfChanged
  rw [hw, hh, hcw, hch]
  exact ite ((h.silent (f := (State.withScreen · _ _)) fun _ _ _ => rfl).emit (.inl rfl)) h

theorem blitFrame (l : Int) : SameButPixels base (t.blitFrame l) (u.blitFrame l) := by
  have hfirst := h.agree State.firstVisibleLine fun _ _ _ => rfl
  have hw := h.agree State.screenW fun _ _ _ => rfl
  have hcount := h.agree State.frameCounter fun _ _ _ => rfl
  unfold State.blitFrame
  rw [hfirst, hw, hcount]
  exact (h.emit (.inl rfl)).silent (f := (State.withFrame · _)) fun _ _ _ => rfl

theorem frameEnd : SameButPixels base t.frameEnd u.frameEnd := by
  have hw := h.agree State.frameWidth fun _ _ _ => rfl
  have hl := h.agree State.frameHeight fun _ _ _ => rfl
  unfold State.frameEnd
  rw [hw, hl]
  exact ((h.resizeIfChanged _ _).blitFrame _).silent (f := State.resetFrameBookkeeping) fun _ _ _ => rfl

theorem vsyncRow : SameButPixels base t.vsyncRow u.vsyncRow := by
  have harmed := h.silent (f := fun s => ((s.withDisplay false).withDisplayLine 0).withVsync Config.vsyncLines)
    fun _ _ _ => rfl
  have hreg := h.agree (State.reg · 7) fun _ _ _ => rfl
  unfold State.vsyncRow
  rw [hreg]
  exact ite harmed harmed.frameEnd

theorem endOfRow : SameButPixels base t.endOfRow u.endOfRow := by
  have hrow := h.wrapRows.agree (State.atRow · 7) fun _ _ _ => rfl
  unfold State.endOfRow
  rw [hrow]
  exact ite h.wrapRows.vsyncRow h.wrapRows

theorem endScanline : SameButPixels base t.endScanline u.endScanline := by
  have hleft := h.agree State.verticalAdjustRemaining fun _ _ _ => rfl
  have hend := h.agree State.rowEnd fun _ _ _ => rfl
  unfold State.endScanline
  rw [hleft, hend]
  exact ite h.adjustLine
    (ite h.endOfRow (h.silent (f := State.nextScanline) fun _ _ _ => rfl))

theorem activeHalf : SameButPixels base t.activeHalf u.activeHalf :=
  h.openActiveHalf.endScanline.silent (f := State.cursorOnBoundary) fun _ _ _ => by
    simp only [State.cursorOnBoundary_eq]; rfl

theorem advance : SameButPixels base t.advance u.advance := by
  have hhalf := h.agree State.lineInFramePosition fun _ _ _ => rfl
  unfold State.advance
  rw [hhalf]
  exact ite h.activeHalf h.blankHalf

end State.SameButPixels

/-- Rule R127: a tick only appends events. -/
theorem State.advance_events (s : State) : ∃ new, s.advance.events = s.events ++ new := by
  obtain ⟨-, new, -, hevents, -, -⟩ := (State.SameButPixels.start s s.vram).advance
  exact ⟨new, hevents⟩

/-! ### The output lines (rule R61) -/

/-- A Line event writes its line. -/
theorem State.outputLine_emit_line (s : State) (k : Nat) (px : List Ink) (n : Nat) :
    (s.emit (.line k px)).outputLine n = if n = k then some px else s.outputLine n := by
  unfold State.outputLine
  rw [State.emit_events, List.reverse_append, List.reverse_singleton, List.singleton_append, List.findSome?_cons]
  by_cases hn : n = k
  · simp [hn]
  · simp [hn, Ne.symm hn]

/-- No other event writes any. -/
theorem State.outputLine_emit_other (s : State) {e : Event} (he : ∀ k px, e ≠ .line k px) (n : Nat) :
    (s.emit e).outputLine n = s.outputLine n := by
  unfold State.outputLine
  rw [State.emit_events, List.reverse_append, List.reverse_singleton, List.singleton_append, List.findSome?_cons]
  cases e with
  | line k px => exact absurd rfl (he k px)
  | _ => rfl

theorem State.visibleLineBookkeeping_outputLine (s : State) (n : Nat) :
    s.visibleLineBookkeeping.outputLine n = s.outputLine n := by
  by_cases hfirst : (s.displayLine : Int) < s.firstVisibleLine
  · rw [s.visibleLineBookkeeping_first hfirst]
    exact (s.withFirstLine s.displayLine).outputLine_emit_other (by simp) n
  · rw [s.visibleLineBookkeeping_later hfirst]
    rfl

/-- Rules R138 to R142: the events of a visible blank half end with its line. -/
theorem State.blankHalf_visible_events (s : State) (h : s.displayActive = true) : ∃ pixels, s.blankHalf.events =
    ((s.schedule s.blankPeriodTicks).enterBlankHalf.visibleLineBookkeeping.emit
      (.line s.displayLine pixels)).events := by
  have hon : (s.schedule s.blankPeriodTicks).enterBlankHalf.displayActive = true := h
  unfold State.blankHalf
  rw [State.vsyncStart_eq, State.renderVisible_on _ _ hon]
  exact ⟨_, rfl⟩

/-- Rule R61: the output lines are a view of the events. -/
theorem State.outputLine_congr {t u : State} (h : t.events = u.events) (n : Nat) :
    t.outputLine n = u.outputLine n := by
  unfold State.outputLine
  rw [h]

end Sys2Proof.Machine

namespace Sys2Proof.Proofs

open Sys2Proof.Machine

/-- Settles O50: every transaction keeps soundness, and so does taking it from the queue. -/
theorem everyStepKeepsTheStateSound : Obligations.EveryStepKeepsTheStateSound := by
  intro s t hs hstep
  obtain ⟨-, rfl⟩ | ⟨r, rest, i, -, -, hexec⟩ := step_next hstep
  · exact hs
  · exact (hs.accept r rest).of_runs (runs_of_exec hexec)

/-- Settles O51: the two ticks run in step, from states that differ in display memory. -/
theorem displayMemoryDecidesOnlyPixels : Obligations.DisplayMemoryDecidesOnlyPixels := by
  intro s m hlive
  obtain ⟨m', new, new', ht, hu, hnew⟩ := (State.SameButPixels.start s m).advance
  have hvram := s.advance_setup.vram
  refine ⟨s.advance, _, new, new', exec_tick_live hlive, exec_tick_live hlive, ht, by rw [hu]; rfl, hnew, ?_⟩
  rw [hu, ← hvram]
  rfl

/-- Settles O24: the byte is a function of the status byte, of which there are 256. -/
theorem statusReadShowsTheTwoFlags : Obligations.StatusReadShowsTheTwoFlags := by
  intro s hlive hbits hid
  refine ⟨s.statusRead, State.whenLive_live hlive _, ?_⟩
  unfold State.statusRead
  rw [hid]
  generalize s.status = x at hbits
  revert x
  decide

/-- Settles O32, by the effect of the transaction. -/
theorem eachFieldChangesOnlyByItsWriters : Obligations.EachFieldChangesOnlyByItsWriters := by
  intro i s t hi h
  cases runs_of_exec h with
  | launch => exact absurd rfl hi
  | writeData off v =>
    obtain ⟨regs, visible, blank, draws, hw⟩ := s.writeData_frame v
    simp [hw]
  | changeSpeed =>
    obtain ⟨visible, blank, draws, hw⟩ := s.changeSpeed_frame
    simp [hw]
  | windowWrite a v =>
    obtain ⟨m, hw⟩ := s.windowWrite_frame a v
    simp [hw]
  | advance =>
    have hset := s.advance_setup
    simp [hset.crtc, hset.crtcIndex, hset.mode, hset.modeExt, hset.claimedWindow, hset.vram,
      hset.visiblePeriodTicks, hset.blankPeriodTicks, hset.tickScale, hset.lifecycle, hset.palette,
      hset.palExtCursor, hset.palExtEnable]
  | unchanged | answer => simp
  | close => simp
  | writeIndex => simp [State.writeIndex]
  | writeMode => simp [State.writeMode]
  | writeConfig => simp [State.writeConfig]

/-- Settles O33, by the effect of the transaction: none but a tick's and that of INIT writes a scan field. -/
theorem onlyTicksMoveTheScan : Obligations.OnlyTicksMoveTheScan := by
  intro i s t hi htick h
  cases runs_of_exec h with
  | launch => exact absurd rfl hi
  | advance => exact absurd rfl htick
  | writeData off v =>
    obtain ⟨regs, visible, blank, draws, hw⟩ := s.writeData_frame v
    rw [hw]
    and_intros <;> rfl
  | changeSpeed =>
    obtain ⟨visible, blank, draws, hw⟩ := s.changeSpeed_frame
    rw [hw]
    and_intros <;> rfl
  | windowWrite a v =>
    obtain ⟨m, hw⟩ := s.windowWrite_frame a v
    rw [hw]
    and_intros <;> rfl
  | unchanged | answer | close | writeIndex | writeMode | writeConfig => and_intros <;> rfl

/-- Settles O34: only a data write stores a register, and its index is at most 22. -/
theorem reservedRegistersAreNeverWritten : Obligations.ReservedRegistersAreNeverWritten := by
  intro i s t j hi hj h
  cases runs_of_exec h with
  | launch => exact absurd rfl hi
  | advance => exact s.advance_setup.reg j
  | writeData off v => exact s.writeData_reserved v hj
  | changeSpeed =>
    obtain ⟨visible, blank, draws, hw⟩ := s.changeSpeed_frame
    rw [hw]
    rfl
  | windowWrite a v =>
    obtain ⟨m, hw⟩ := s.windowWrite_frame a v
    rw [hw]
    rfl
  | unchanged | answer | close | writeIndex | writeMode | writeConfig => rfl

/-- Settles O35: a tick appends, the configuration write emits, and no other effect touches the events. -/
theorem eventsAreOnlyAppended : Obligations.EventsAreOnlyAppended := by
  intro i s t hi h
  have hsilent {u : State} (hu : u.events = s.events) :
      ∃ new, u.events = s.events ++ new ∧ (new = [] ∨ i = .tick ∨ ∃ v, i = .iowConfig v) :=
    ⟨[], hu.trans (List.append_nil _).symm, .inl rfl⟩
  cases runs_of_exec h with
  | launch => exact absurd rfl hi
  | advance =>
    obtain ⟨new, hnew⟩ := s.advance_events
    exact ⟨new, hnew, .inr (.inl rfl)⟩
  | writeConfig v => exact ⟨_, by rw [s.writeConfig_eq], .inr (.inr ⟨v, rfl⟩)⟩
  | writeData off v =>
    obtain ⟨regs, visible, blank, draws, hw⟩ := s.writeData_frame v
    exact hsilent (by rw [hw])
  | changeSpeed =>
    obtain ⟨visible, blank, draws, hw⟩ := s.changeSpeed_frame
    exact hsilent (by rw [hw])
  | windowWrite a v =>
    obtain ⟨m, hw⟩ := s.windowWrite_frame a v
    exact hsilent (by rw [hw])
  | unchanged | answer | close | writeIndex | writeMode => exact hsilent rfl

/-- Settles O39: the events before the line's own write no output line. -/
theorem visibleBlankHalfWritesOneOutputLine : Obligations.VisibleBlankHalfWritesOneOutputLine := by
  intro s hlive hhalf hactive
  obtain ⟨pixels, hevents⟩ := s.blankHalf_visible_events hactive
  rw [← State.advance_blank hhalf] at hevents
  refine ⟨s.advance, pixels, exec_tick_live hlive, ?last, fun n => ?lines⟩
  case last => rw [hevents, State.emit_events, List.getLast?_concat]
  case lines =>
    have hschedule : (s.schedule s.blankPeriodTicks).enterBlankHalf.outputLine n = s.outputLine n :=
      s.outputLine_emit_other (by simp) n
    rw [State.outputLine_congr hevents, State.outputLine_emit_line, State.visibleLineBookkeeping_outputLine, hschedule]

/-- Settles O9: INIT launches the reset device, whose registers make the blank period one column. -/
theorem initLeavesTheResetValues : Obligations.InitLeavesTheResetValues := by
  intro s hnone hscale
  rw [exec_init_uncreated hnone hscale, State.launch_resetDevice]
  rfl

/-- Settles O19. -/
theorem configWriteClaimsAndAnnouncesTheWindow : Obligations.ConfigWriteClaimsAndAnnouncesTheWindow := by
  intro s v hlive
  refine ⟨fun h8 hm => ?decodes, (State.whenLive_live hlive _).trans (congrArg _ (s.writeConfig_eq v))⟩
  case decodes => rw [decode_iowWord, decodeIow_config v h8 hm]

end Sys2Proof.Proofs

/-! The statement of spec/20_memory.md: the memory routing (O30). -/

namespace Sys2Proof.Machine

/-! ### The memory routing (rules R50 and R63) -/

/-- Rule R50: neither window is larger than VRAM. -/
theorem Window.bytes_le (w : Window) : w.bytes ≤ 0x10000 := by
  cases w with
  | w32K => decide
  | w64K => decide

/-- Rule R63 with decision D3: from a base that is a multiple of 64K, an address is routed to an offset exactly where it
lies that far above the base and the offset is inside the claimed window. -/
theorem State.routeMemory_eq_some_iff {s : State} (hbase : s.params.vramBase % 0x10000 = 0) (address : Nat)
    (a : Offset) :
    s.routeMemory address = some a ↔
      address = s.params.vramBase + a.toNat ∧ a.toNat < s.claimedWindow.bytes := by
  have hbytes := s.claimedWindow.bytes_le
  have ha : a.toNat < 0x10000 := a.isLt
  unfold State.routeMemory
  split_ifs with hin
  · simp only [Option.some.injEq, ← BitVec.toNat_inj, BitVec.toNat_ofNat]
    omega
  · simp only [false_iff]
    omega

end Sys2Proof.Machine

namespace Sys2Proof.Proofs

open Sys2Proof.Machine

/-- Settles O30: the routed offset is the distance from the base, which has 16 bits everywhere in the window. -/
theorem routedAddressesAreWindowOffsets : Obligations.RoutedAddressesAreWindowOffsets := by
  intro s address hbase
  simp only [State.routeMemory_eq_some_iff hbase]
  refine ⟨fun a ⟨haddress, hwindow⟩ => ⟨by omega, by omega, hwindow⟩, fun ⟨a, haddress, hwindow⟩ => by omega,
    fun ⟨hlow, hhigh⟩ => ?distance⟩
  case distance =>
    have hbytes := s.claimedWindow.bytes_le
    refine ⟨BitVec.ofNat 16 (address - s.params.vramBase), ?_⟩
    rw [BitVec.toNat_ofNat]
    omega

end Sys2Proof.Proofs

/-! The statements of spec/30_encoding.md: the codec (O1 to O4), the data write (O16), the mode write and the status
read (O18, O23), the rows without a function (O20, O25), the font arbiter (O55) and the graphics line (O58). -/

namespace Sys2Proof

/-! ### A word and its fields (rule R81) -/

/-- A word with Z = 0 is the transaction word of its fields K, A and D. -/
theorem eq_transactionWord {w : Word32} (hz : reservedField w = 0) :
    w = transactionWord (kindField w) (addressField w) (dataField w) := by
  apply BitVec.eq_of_getLsbD_eq
  intro i hi
  rw [getLsbD_transactionWord]
  split_ifs with hdata haddress hreserved
  · simp [dataField, hdata]
  · have hi16 : i - 8 < 16 := by omega
    have hi8 : 8 + (i - 8) = i := by omega
    simp [addressField, hi16, hi8]
  · have hi4 : i - 24 < 4 := by omega
    have hi24 : 24 + (i - 24) = i := by omega
    simpa [reservedField, hi4, hi24] using congrArg (·.getLsbD (i - 24)) hz
  · have hi4 : i - 28 < 4 := by omega
    have hi28 : 28 + (i - 28) = i := by omega
    simp [kindField, hi4, hi28]

/-- A port word whose high address bits are 0 has its offset, zero-extended, in A (rule R83). -/
theorem addressField_of_portHigh {w : Word32} (hhigh : portHighField w = 0) :
    addressField w = (offsetField w).setWidth 16 := by
  apply BitVec.eq_of_getLsbD_eq
  intro i hi
  by_cases hlow : i < 4
  · simp [addressField, offsetField, hi, hlow]
  · have hi12 : i - 4 < 12 := by omega
    have hi4 : 12 + (i - 4) = 8 + i := by omega
    simpa [addressField, offsetField, portHighField, hi, hlow, hi12, hi4] using congrArg (·.getLsbD (i - 4)) hhigh

/-! ### What decodes (rules R82 to R86) -/

/-- Everything a word that decodes can be (rules R82 to R85): Z is 0 in all of them, and so is A[15:4] in a port word;
the fields that the transaction does not name are free. -/
inductive Decodes (p : Params) (w : Word32) : Instr → Prop
  | iow {off : BitVec 4} {v : Byte} (hw : w = transactionWord 0 (off.setWidth 16) v) : Decodes p w (decodeIow p off v)
  | ior {off : BitVec 4} {d : Byte} (hw : w = transactionWord 1 (off.setWidth 16) d) : Decodes p w (decodeIor p off)
  | memw {a : Offset} {v : Byte} (hw : w = transactionWord 2 a v) : Decodes p w (.memw a v)
  | memr {a : Offset} {d : Byte} (hw : w = transactionWord 3 a d) : Decodes p w (.memr a)
  | tick {a : Offset} {d : Byte} (hw : w = transactionWord 4 a d) : Decodes p w .tick
  | init {a : Offset} {d : Byte} (hw : w = transactionWord 5 a d) : Decodes p w .init
  | close {a : Offset} {d : Byte} (hw : w = transactionWord 6 a d) : Decodes p w .close
  | speed {a : Offset} {d : Byte} (hw : w = transactionWord 7 a d) : Decodes p w .speed

/-- The last kind below 8. -/
theorem kind_eq_seven {k : BitVec 4} (hk : ¬8 ≤ k.toNat) (h0 : ¬k = 0) (h1 : ¬k = 1) (h2 : ¬k = 2) (h3 : ¬k = 3)
    (h4 : ¬k = 4) (h5 : ¬k = 5) (h6 : ¬k = 6) : k = 7 := by bv_omega

/-- Rules R82 to R86: the decoder answers with a transaction only where it follows the layout. -/
theorem decodes_of_ok {p : Params} {w : Word32} {i : Instr} (h : decode p w = .ok i) : Decodes p w i := by
  have word {k : BitVec 4} (hz : ¬reservedField w ≠ 0) (hk : kindField w = k) :
      w = transactionWord k (addressField w) (dataField w) := hk ▸ eq_transactionWord (not_not.1 hz)
  have portWord {k : BitVec 4} (hz : ¬reservedField w ≠ 0) (hk : kindField w = k) (hhigh : ¬portHighField w ≠ 0) :
      w = transactionWord k ((offsetField w).setWidth 16) (dataField w) :=
    addressField_of_portHigh (not_not.1 hhigh) ▸ word hz hk
  unfold decode at h
  split_ifs at h with hk hz h0 hhigh h1 hhigh h2 h3 h4 h5 h6 <;> cases h
  · exact .iow (portWord hz h0 hhigh)
  · exact .ior (portWord hz h1 hhigh)
  · exact .memw (word hz h2)
  · exact .memr (word hz h3)
  · exact .tick (word hz h4)
  · exact .init (word hz h5)
  · exact .close (word hz h6)
  · exact .speed (word hz (kind_eq_seven hk h0 h1 h2 h3 h4 h5 h6))

/-- The two port kinds (rule R82). -/
theorem portKind_iff (k : BitVec 4) : k.toNat ≤ 1 ↔ k = 0 ∨ k = 1 := by
  revert k
  decide

/-- Rule R86: the words that do not decode. -/
theorem decode_error_iff (p : Params) (w : Word32) : (∃ e, decode p w = .error e) ↔
    8 ≤ (kindField w).toNat ∨ reservedField w ≠ 0 ∨ ((kindField w).toNat ≤ 1 ∧ portHighField w ≠ 0) := by
  rw [portKind_iff]
  have legal (hk : ¬8 ≤ (kindField w).toNat) (hz : ¬reservedField w ≠ 0)
      (hport : kindField w = 0 ∨ kindField w = 1 → ¬portHighField w ≠ 0) :
      ¬(8 ≤ (kindField w).toNat ∨ reservedField w ≠ 0 ∨
        ((kindField w = 0 ∨ kindField w = 1) ∧ portHighField w ≠ 0)) :=
    fun h => h.elim hk fun h => h.elim hz fun ⟨hkind, hhigh⟩ => hport hkind hhigh
  unfold decode
  split_ifs with hk hz h0 hhigh h1 hhigh
  · exact iff_of_true ⟨_, rfl⟩ (.inl hk)
  · exact iff_of_true ⟨_, rfl⟩ (.inr (.inl hz))
  · exact iff_of_true ⟨_, rfl⟩ (.inr (.inr ⟨.inl h0, hhigh⟩))
  · exact iff_of_false (by simp) (legal hk hz fun _ => hhigh)
  · exact iff_of_true ⟨_, rfl⟩ (.inr (.inr ⟨.inr h1, hhigh⟩))
  · exact iff_of_false (by simp) (legal hk hz fun _ => hhigh)
  all_goals exact iff_of_false (by simp) (legal hk hz fun hport => absurd hport (not_or.2 ⟨h0, h1⟩))

/-! ### The port map and the encoder (rules R87 and R88) -/

/-- An offset below 8 is an index port or a data port. -/
theorem high_of_not_low_port {off : BitVec 4} (hindex : ¬isIndexPort off = true) (hdata : ¬isDataPort off = true) :
    8 ≤ off.toNat := by
  revert off
  decide

/-- Every ignored write is well formed. -/
theorem unassignedWrite_wf (row : BitVec 4) (v : Byte) : (unassignedWrite row v).wf = true := by
  unfold unassignedWrite
  split_ifs <;> rfl

/-- Every read without a function is well formed. -/
theorem unassignedRead_wf (row : BitVec 4) : (unassignedRead row).wf = true := by
  unfold unassignedRead
  split_ifs <;> rfl

/-- A port write that decodes is well formed. -/
theorem decodeIow_wf (p : Params) (off : BitVec 4) (v : Byte) : (decodeIow p off v).wf = true := by
  unfold decodeIow
  split_ifs with hindex hdata hm hc
  · exact hindex
  · exact hdata
  · rfl
  · rfl
  · exact unassignedWrite_wf _ v

/-- A port read that decodes is well formed. -/
theorem decodeIor_wf (p : Params) (off : BitVec 4) : (decodeIor p off).wf = true := by
  unfold decodeIor
  split_ifs with hindex hdata hs
  · exact hindex
  · exact hdata
  · rfl
  · exact unassignedRead_wf _

/-- The rows of the ignored writes, by the offsets the table names them with. -/
def writeRows : List (BitVec 4) := [0x9, 0xA, 0xB, 0xC, 0xD, 0xE]

/-- The rows of the reads without a function, by the offsets the table names them with. -/
def readRows : List (BitVec 4) := [0x8, 0x9, 0xB, 0xC, 0xD, 0xE, 0xF]

theorem mem_writeRows_iff (row : BitVec 4) : row ∈ writeRows ↔ 9 ≤ row.toNat ∧ row.toNat ≤ 14 := by
  revert row
  decide

theorem mem_readRows_iff (row : BitVec 4) : row ∈ readRows ↔ 8 ≤ row.toNat ∧ row ≠ 0xA := by
  revert row
  decide

/-- The encoder's word of an ignored write has its row's offset. -/
theorem encode_unassignedWrite (p : Params) {row : BitVec 4} (v : Byte) (hrow : row ∈ writeRows) :
    encode p (unassignedWrite row v) = encodeIow (p.writeOffset row) v := by
  simp only [writeRows, List.mem_cons, List.not_mem_nil, or_false] at hrow
  obtain rfl | rfl | rfl | rfl | rfl | rfl := hrow <;> rfl

/-- The encoder's word of a read without a function has its row's offset. -/
theorem encode_unassignedRead (p : Params) {row : BitVec 4} (hrow : row ∈ readRows) :
    encode p (unassignedRead row) = encodeIor (p.readOffset row) := by
  simp only [readRows, List.mem_cons, List.not_mem_nil, or_false] at hrow
  obtain rfl | rfl | rfl | rfl | rfl | rfl | rfl := hrow <;> rfl

/-- The encoder gives a port write its offset back. -/
theorem encode_decodeIow {p : Params} (hp : p.PortsLegal) (off : BitVec 4) (v : Byte) :
    encode p (decodeIow p off v) = encodeIow off v := by
  unfold decodeIow
  split_ifs with hindex hdata hm hc
  · rfl
  · rfl
  · rw [hm]; rfl
  · rw [hc]; rfl
  · obtain ⟨h9, h14, hback⟩ := Params.writeRow_spec hp off (high_of_not_low_port hindex hdata) hm hc
    rw [encode_unassignedWrite p v ((mem_writeRows_iff _).2 ⟨h9, h14⟩), hback]

/-- The encoder gives a port read its offset back. -/
theorem encode_decodeIor {p : Params} (hp : 8 ≤ p.offStatus.toNat) (off : BitVec 4) :
    encode p (decodeIor p off) = encodeIor off := by
  unfold decodeIor
  split_ifs with hindex hdata hs
  · rfl
  · rfl
  · rw [hs]; rfl
  · obtain ⟨h8, hA, hback⟩ := Params.readRow_spec hp off (high_of_not_low_port hindex hdata) hs
    rw [encode_unassignedRead p ((mem_readRows_iff _).2 ⟨h8, hA⟩), hback]

/-- Some row of the list is the row of each ignored write, whatever the parameters put there. -/
theorem exists_writeRow (row : BitVec 4) (v : Byte) :
    ∃ r ∈ writeRows, unassignedWrite row v = unassignedWrite r v := by
  by_cases hrow : row ∈ writeRows
  · exact ⟨row, hrow, rfl⟩
  · refine ⟨0xE, by decide, ?_⟩
    simp only [writeRows, List.mem_cons, not_or] at hrow
    obtain ⟨h9, hA, hB, hC, hD, -⟩ := hrow
    rw [unassignedWrite, if_neg h9, if_neg hA, if_neg hB, if_neg hC, if_neg hD]
    rfl

/-- Some row of the list is the row of each read without a function, whatever the parameters put there. -/
theorem exists_readRow (row : BitVec 4) : ∃ r ∈ readRows, unassignedRead row = unassignedRead r := by
  by_cases hrow : row ∈ readRows
  · exact ⟨row, hrow, rfl⟩
  · refine ⟨0xF, by decide, ?_⟩
    simp only [readRows, List.mem_cons, not_or] at hrow
    obtain ⟨h8, h9, hB, hC, hD, hE, -⟩ := hrow
    rw [unassignedRead, if_neg h8, if_neg h9, if_neg hB, if_neg hC, if_neg hD, if_neg hE]
    rfl

/-- Where neither register moved to it, the offset of a row's name has that row. -/
theorem decodeIow_writeRow {p : Params} {row : BitVec 4} (v : Byte) (hrow : row ∈ writeRows) (hm : row ≠ p.offMode)
    (hc : row ≠ p.offConfig) : decodeIow p row v = unassignedWrite row v := by
  obtain ⟨h9, h14⟩ := (mem_writeRows_iff row).1 hrow
  have h8 : row ≠ 0x8 := by rintro rfl; simp at h9
  have hF : row ≠ 0xF := by rintro rfl; simp at h14
  rw [decodeIow_unassigned v (by omega) hm hc, Params.writeRow, if_neg h8, if_neg hF]

/-- Where status has not moved to it, the offset of a row's name has that row. -/
theorem decodeIor_readRow {p : Params} {row : BitVec 4} (hrow : row ∈ readRows) (hs : row ≠ p.offStatus) :
    decodeIor p row = unassignedRead row := by
  obtain ⟨h8, hA⟩ := (mem_readRows_iff row).1 hrow
  rw [decodeIor_unassigned h8 hs, Params.readRow, if_neg hA]

/-! ### The fields a kind reads (rule R85) -/

/-- The bits of a word of kind `k` that are not don't-care. -/
def readMask (k : BitVec 4) : Word32 :=
  if k = 0 ∨ k = 2 then 0xFFFFFFFF else if k = 1 ∨ k = 3 then 0xFFFFFF00 else 0xFF000000

/-- Without D, a word is that of D = 0. -/
theorem transactionWord_maskData (k : BitVec 4) (a : Offset) (d : Byte) :
    transactionWord k a d &&& 0xFFFFFF00 = transactionWord k a 0 :=
  (Laws.mask_transactionWord k a 0xFFFF d).trans (congrArg (transactionWord k · 0) BitVec.and_allOnes)

/-- Without A and D, a word is that of A = 0 and D = 0. -/
theorem transactionWord_maskAddress (k : BitVec 4) (a : Offset) (d : Byte) :
    transactionWord k a d &&& 0xFF000000 = transactionWord k 0 0 :=
  (Laws.mask_transactionWord k a 0 d).trans (congrArg (transactionWord k · 0) BitVec.and_zero)

end Sys2Proof

namespace Sys2Proof.Machine

/-- Rule R161: the period of an active half, whatever the blank is. -/
theorem State.recomputeTiming_visible (s : State) :
    s.recomputeTiming.visiblePeriodTicks = (s.reg 1).toNat * s.tickScale := by
  obtain ⟨blank, draws, hperiods⟩ := s.recomputeTiming_cases
  rw [hperiods]
  rfl

/-! ### The cells of a graphics line (rules R206 and R207) -/

/-- Rules R206 and R207: the cell's address in its bank; the sum never wraps. -/
theorem State.graphicsOffset_toNat (s : State) (row : Row) (ma : CellAddr) : (s.graphicsOffset row ma).toNat =
    (2 * ma.toNat) % 8192 + row.toNat % 4 * 8192 + if s.mode.getLsbD 7 ∧ s.modeExt.getLsbD 1 then 32768 else 0 := by
  have hcell : ((ma.setWidth 16 <<< 1) &&& (0x1FFF : Offset)).toNat = (2 * ma.toNat) % 8192 := by
    have hma : ma.toNat < 2 ^ 14 := ma.isLt
    have hmask : (0x1FFF : Offset).toNat = 2 ^ 13 - 1 := rfl
    rw [BitVec.toNat_and, BitVec.toNat_shiftLeft, BitVec.toNat_setWidth, hmask, Nat.and_two_pow_sub_one_eq_mod,
      Nat.shiftLeft_eq]
    omega
  have hrow : ((row.extractLsb' 0 2).setWidth 16 * (0x2000 : Offset)).toNat = row.toNat % 4 * 8192 := by
    revert row
    decide
  have hpage : (if s.page1Active then (0x8000 : Offset) else 0).toNat =
      if s.mode.getLsbD 7 ∧ s.modeExt.getLsbD 1 then 32768 else 0 := by
    simp only [State.page1Active, Bool.and_eq_true]
    exact apply_ite BitVec.toNat _ _ _
  rw [State.graphicsOffset, State.bank, BitVec.toNat_add, BitVec.toNat_add, hcell, hrow, hpage]
  split_ifs <;> omega

/-- Rule R207: a cell's address is even, so that its right byte never lies past the end of VRAM. -/
theorem State.graphicsOffset_succ (s : State) (row : Row) (ma : CellAddr) :
    (s.graphicsOffset row ma + 1).toNat = (s.graphicsOffset row ma).toNat + 1 := by
  have hone : (1 : Offset).toNat = 1 := rfl
  rw [BitVec.toNat_add, s.graphicsOffset_toNat, hone]
  split_ifs <;> omega

/-- Rule R207: with the video enabled, the left byte is the high half of the cell. -/
theorem State.graphicsCell_bit (s : State) (row : Row) (ma : CellAddr) (i : Nat) :
    (s.graphicsCell row ma).getLsbD (15 - i) = (s.mode.getLsbD 3 &&
      if i < 8 then (s.memRead (s.graphicsOffset row ma)).getLsbD (7 - i)
      else (s.memRead (s.graphicsOffset row ma + 1)).getLsbD (15 - i)) := by
  unfold State.graphicsCell State.videoEnabled
  cases s.mode.getLsbD 3
  · simp
  · rw [if_pos rfl, Bool.true_and, BitVec.getLsbD_append]
    by_cases hi : i < 8
    · have hhigh : ¬15 - i < 8 := by omega
      have hbit : 15 - i - 8 = 7 - i := by omega
      rw [if_pos hi, if_neg hhigh, hbit]
    · have hlow : 15 - i < 8 := by omega
      rw [if_neg hi, if_pos hlow]

end Sys2Proof.Machine

namespace Sys2Proof.Proofs

open Sys2Proof.Machine

/-- Settles O1: the encoder writes the fields of the transaction's kind, and the port map finds the transaction at the
offset it gave. -/
theorem decodeOfEncodeIsTheInstruction : Obligations.DecodeOfEncodeIsTheInstruction := by
  intro p i hp hwf
  have ⟨hmode, hstatus, hconfig, hapart⟩ := hp
  have write {row : BitVec 4} (v : Byte) (hrow : row ∈ writeRows) :
      decode p (encodeIow (p.writeOffset row) v) = .ok (unassignedWrite row v) :=
    have ⟨h9, h14⟩ := (mem_writeRows_iff row).1 hrow
    decode_encodeIow_unassigned hp v h9 h14
  have read {row : BitVec 4} (hrow : row ∈ readRows) :
      decode p (encodeIor (p.readOffset row)) = .ok (unassignedRead row) :=
    have ⟨h8, hA⟩ := (mem_readRows_iff row).1 hrow
    decode_encodeIor_unassigned hstatus h8 hA
  cases i with
  | iowIndex off v => rw [encode, decode_encodeIow, decodeIow_index v hwf]
  | iowData off v => rw [encode, decode_encodeIow, decodeIow_data v hwf]
  | iowMode v => rw [encode, decode_encodeIow, decodeIow_mode v hmode]
  | iowConfig v => rw [encode, decode_encodeIow, decodeIow_config v hconfig hapart.symm]
  | iowUnassigned9 v | iowUnassignedA v | iowUnassignedB v | iowUnassignedC v | iowUnassignedD v | iowUnassignedE v =>
    exact write v (by decide)
  | iorIndex off => rw [encode, decode_encodeIor, decodeIor_index hwf]
  | iorData off => rw [encode, decode_encodeIor, decodeIor_data hwf]
  | iorStatus => rw [encode, decode_encodeIor, decodeIor_status hstatus]
  | iorUnassigned8 | iorUnassigned9 | iorUnassignedB | iorUnassignedC | iorUnassignedD | iorUnassignedE
  | iorUnassignedF => exact read (by decide)
  | memw | memr | tick | init | close | speed => simp [decode, encode]

/-- Settles O2, by the kind of the word: its mask clears what the encoder writes as 0. -/
theorem decodedWordsAreEncodingsUpToIgnoredFields : Obligations.DecodedWordsAreEncodingsUpToIgnoredFields := by
  intro p w i hp h
  have ⟨_, hstatus, _⟩ := hp
  have read {k : BitVec 4} {a : Offset} {d : Byte} (hw : w = transactionWord k a d) :
      w &&& readMask (kindField w) = transactionWord k a d &&& readMask k := by rw [hw, kindField_transactionWord]
  change i.wf = true ∧ encode p i = w &&& readMask (kindField w)
  cases decodes_of_ok h with
  | iow hw => exact ⟨decodeIow_wf .., (encode_decodeIow hp ..).trans ((read hw).trans BitVec.and_allOnes).symm⟩
  | ior hw =>
    exact ⟨decodeIor_wf .., (encode_decodeIor hstatus _).trans ((read hw).trans (transactionWord_maskData ..)).symm⟩
  | memw hw => exact ⟨rfl, ((read hw).trans BitVec.and_allOnes).symm⟩
  | memr hw => exact ⟨rfl, ((read hw).trans (transactionWord_maskData ..)).symm⟩
  | tick hw | init hw | close hw | speed hw =>
    exact ⟨rfl, ((read hw).trans (transactionWord_maskAddress ..)).symm⟩

/-- Settles O3: a step refuses the word the decoder refuses. -/
theorem exactlyTheIllegalWordsAreRefused : Obligations.ExactlyTheIllegalWordsAreRefused := by
  refine ⟨decode_error_iff, fun s r rest hpending hillegal => ?step⟩
  case step =>
    obtain ⟨e, he⟩ := (decode_error_iff s.params r.word).2 hillegal
    exact ⟨e, step_refuses hpending he⟩

/-- Settles O16: the registers are those after the correction, and the periods are recomputed from them. -/
theorem dataWriteStoresCorrectsAndRecomputes : Obligations.DataWriteStoresCorrectsAndRecomputes := by
  intro s off v hlive hi
  have hstored := (s.setReg s.crtcIndex v).cursorCorrection_frame
  have hscale : (s.setReg s.crtcIndex v).cursorCorrection.tickScale = s.tickScale := by rw [hstored]; rfl
  have hdraws : (s.setReg s.crtcIndex v).cursorCorrection.drawCount = s.drawCount := by rw [hstored]; rfl
  refine ⟨fun hoff => ?decodes, s.writeData v, State.whenLive_live hlive _, fun j => ?registers, ?visible,
    fun hle => ?blank, ?others⟩
  case decodes =>
    have hport : isDataPort off = true := by obtain rfl | rfl | rfl | rfl := hoff <;> rfl
    rw [decode_iowWord, decodeIow_data v hport]
  case registers => simp only [s.writeData_reg v hi, State.cursorCorrection_reg, State.setReg_reg]
  case visible => rw [s.writeData_reg v hi, State.writeData_accepted hi, State.recomputeTiming_visible, hscale]
  case blank =>
    rw [s.writeData_reg v hi, s.writeData_reg v hi] at hle ⊢
    rw [State.writeData_accepted hi, State.recomputeTiming_of_le _ hle, hscale]
    exact ⟨rfl, hdraws⟩
  case others =>
    obtain ⟨regs, visible, blank, draws, hw⟩ := s.writeData_frame v
    rw [hw]

/-- Settles O55: the font bits of register 20 choose the source, whose address is a 16-bit sum. -/
theorem glyphRowsComeFromTheirSource : Obligations.GlyphRowsComeFromTheirSource := by
  intro s chr attr row
  refine ⟨fun hrom => ?rom, fun hram hfew => ?ram4K, fun hram hmany => ?ram48K⟩
  case rom =>
    have hvariant : s.textVariant = .rom := if_neg (Bool.eq_false_iff.1 hrom)
    simp only [State.glyphRow, hvariant, romGlyph]
  case ram4K =>
    have hvariant : s.textVariant = .ram4K := (if_pos hram).trans (if_neg (Bool.eq_false_iff.1 hfew))
    simp only [State.glyphRow, hvariant, State.ram4KGlyph, State.memRead, State.ram4KAddr_toNat]
  case ram48K =>
    have hvariant : s.textVariant = .ram48K := (if_pos hram).trans (if_pos hmany)
    simp only [State.glyphRow, hvariant, State.ram48KGlyph, State.memRead, State.ram48KAddr_toNat, fontSelect_toNat]
    congr 2
    omega

/-- Settles O58: the pixel is one of the cell's 16 bits, whose left byte is the high one. -/
theorem graphicsPixels : Obligations.GraphicsPixels := by
  intro s row k i ma page off lit hk hi
  have hcell := lineCells_pixel (fun ma => s.cellPixels (s.graphicsCell row ma)) (fun _ => s.cellPixels_length _)
    s.columns s.memoryAddress hk hi
  rw [State.renderGraphics, hcell, s.cellPixels_pixel _ hi]
  congr 1
  have hleft : s.memRead (s.graphicsOffset row ma) = Memory.read s.vram off := by
    rw [State.memRead, s.graphicsOffset_toNat]
  have hright : s.memRead (s.graphicsOffset row ma + 1) = Memory.read s.vram (off + 1) := by
    rw [State.memRead, s.graphicsOffset_succ, s.graphicsOffset_toNat]
  rw [s.graphicsCell_bit, hleft, hright]
  exact if_congr Bool.and_eq_true_iff rfl rfl

/-- Settles O4: the decoder runs on each word. -/
theorem spelledOutWordsDecode : Obligations.SpelledOutWordsDecode := by
  unfold Obligations.SpelledOutWordsDecode
  decide

/-- Settles O18: the write at P_OFF_MODE is the mode register's. -/
theorem modeWriteStoresTheByte : Obligations.ModeWriteStoresTheByte := by
  intro s v hlive
  refine ⟨fun h8 => ?decodes, State.whenLive_live hlive _⟩
  case decodes => rw [decode_iowWord, decodeIow_mode v h8]

/-- Settles O23: the read at P_OFF_STATUS is the status register's. -/
theorem statusReadReturnsThePackedByte : Obligations.StatusReadReturnsThePackedByte := by
  intro s d hlive
  refine ⟨fun h8 => ?decodes, State.whenLive_live hlive _⟩
  case decodes => rw [decode_iorWord, decodeIor_status h8]

/-- Settles O20: the rows of the statement are `writeRows`, each with its ignored write. -/
theorem unassignedWritesChangeNothing : Obligations.UnassignedWritesChangeNothing := by
  intro s v hlive
  change (∀ off : BitVec 4, _ → _ → _ → ∃ row ∈ writeRows.map fun row => (row, unassignedWrite row v), _) ∧
    ∀ row ∈ writeRows.map fun row => (row, unassignedWrite row v), _
  simp only [List.forall_mem_map, decode_iowWord]
  refine ⟨fun off h8 hm hc => ?offsets, fun row hrow => ⟨fun hm hc => ?named, ?ignored⟩⟩
  case offsets =>
    obtain ⟨row, hrow, hrows⟩ := exists_writeRow (s.params.writeRow off) v
    exact ⟨_, List.mem_map_of_mem hrow, by rw [decodeIow_unassigned v h8 hm hc, hrows]⟩
  case named => rw [decodeIow_writeRow v hrow hm hc]
  case ignored => rw [exec_unassignedWrite, State.whenLive_live hlive]

/-- Settles O25: the rows of the statement are `readRows`, each with its read. -/
theorem unassignedReadsReturnAllOnes : Obligations.UnassignedReadsReturnAllOnes := by
  intro s d hlive
  change (∀ off : BitVec 4, _ → _ → ∃ row ∈ readRows.map fun row => (row, unassignedRead row), _) ∧
    ∀ row ∈ readRows.map fun row => (row, unassignedRead row), _
  simp only [List.forall_mem_map, decode_iorWord]
  refine ⟨fun off h8 hs => ?offsets, fun row hrow => ⟨fun hs => ?named, ?sentinel⟩⟩
  case offsets =>
    obtain ⟨row, hrow, hrows⟩ := exists_readRow (s.params.readRow off)
    exact ⟨_, List.mem_map_of_mem hrow, by rw [decodeIor_unassigned h8 hs, hrows]⟩
  case named => rw [decodeIor_readRow hrow hs]
  case sentinel =>
    rw [exec_unassignedRead, State.whenLive_live hlive]
    rfl

end Sys2Proof.Proofs

/-! The statements of spec/40_ports.md: a live device and its host (O7, O8), the index port (O14, O21) and the data port
(O15, O17, O22). -/

namespace Sys2Proof.Machine

/-! ### What a live device does with a transaction (rules R128 and R221) -/

/-- No transaction that has a result touches the queue or the parameters. -/
theorem Runs.keeps_stream {s t : State} {i : Instr} (hrun : Runs s i t) :
    t.pending = s.pending ∧ t.params = s.params := by
  cases hrun with
  | advance => exact ⟨s.advance_setup.pending, s.advance_setup.params⟩
  | writeData off v =>
    obtain ⟨regs, visible, blank, draws, hw⟩ := s.writeData_frame v
    rw [hw]
    exact ⟨rfl, rfl⟩
  | changeSpeed =>
    obtain ⟨visible, blank, draws, hw⟩ := s.changeSpeed_frame
    rw [hw]
    exact ⟨rfl, rfl⟩
  | windowWrite a v =>
    obtain ⟨m, hw⟩ := s.windowWrite_frame a v
    rw [hw]
    exact ⟨rfl, rfl⟩
  | launch =>
    rw [s.launch_resetDevice]
    exact ⟨rfl, rfl⟩
  | unchanged | answer | close | writeIndex | writeMode | writeConfig => exact ⟨rfl, rfl⟩

/-- Rules R128 and R221: on a live device a transaction other than INIT has a result; SPEED asks for a positive scale. -/
theorem exec_live_next {i : Instr} {s : State} (hlive : s.lifecycle = .live) (hinit : i ≠ .init)
    (hscale : i = .speed → 0 < s.hostTickScale) : ∃ t, exec i s = .next t := by
  cases i with
  | init => exact absurd rfl hinit
  | speed => exact ⟨_, exec_speed_live hlive (hscale rfl)⟩
  | _ => exact ⟨_, State.whenLive_live hlive _⟩

/-! ### Runs of the machine -/

/-- A run whose first step has a next state goes on from there. -/
theorem run_succ {s t : State} (hstep : step s = .next t) (n : Nat) :
    Host.Core.run core (n + 1) s = Host.Core.run core n t := by
  have hcore : core.step s = .next t := hstep
  simp only [Host.Core.run, hcore]

/-! ### The requests of a host that keeps its duties (rule R234) -/

/-- A dutiful request carries a transaction that a live device runs without ending. -/
theorem Request.decodes_of_dutiful {r : Request} {p : Params} (h : r.dutiful p = true) :
    ∃ i, decode p r.word = .ok i ∧ i ≠ .init ∧ i ≠ .close ∧ (i = .speed → 0 < r.tickScale) := by
  unfold Request.dutiful at h
  split at h
  case h_1 | h_2 | h_3 => cases h
  case h_4 hdecode => exact ⟨_, hdecode, nofun, nofun, fun _ => of_decide_eq_true h⟩
  case h_5 i hinit hclose hspeed hdecode => exact ⟨i, hdecode, hinit, hclose, fun hi => (hspeed hi).elim⟩

/-! ### A register programmed through the ports (rules R117 to R119) -/

/-- Rule R117: an index write of a register's number selects that register. -/
theorem State.writeIndex_setWidth (s : State) (i : BitVec 5) : s.writeIndex (i.setWidth 8) = s.withIndex i := by
  have hlow : (i.setWidth 8).extractLsb' 0 5 = i := by
    revert i
    decide
  rw [State.writeIndex, hlow]

/-- A step that takes an index write of a register's number selects the register. -/
theorem step_selectRegister {s : State} (hlive : s.lifecycle = .live) {off : BitVec 4} (hoff : isIndexPort off = true)
    {i : BitVec 5} {r : Request} {rest : List Request} (hpending : s.pending = r :: rest)
    (hword : r.word = (0 : BitVec 20) ++ off ++ i.setWidth 8) : step s = .next ((s.accept r rest).withIndex i) := by
  have hdecode : decode s.params r.word = .ok (.iowIndex off (i.setWidth 8)) := by
    rw [hword, Proofs.decode_iowWord, decodeIow_index _ hoff]
  rw [step_runs hpending hdecode, ← State.writeIndex_setWidth]
  exact State.whenLive_live hlive _

/-- A step that takes a data write writes the selected register. -/
theorem step_dataWrite {s : State} (hlive : s.lifecycle = .live) {off : BitVec 4} (hoff : isDataPort off = true)
    {v : Byte} {r : Request} {rest : List Request} (hpending : s.pending = r :: rest)
    (hword : r.word = (0 : BitVec 20) ++ off ++ v) : step s = .next ((s.accept r rest).writeData v) := by
  have hdecode : decode s.params r.word = .ok (.iowData off v) := by
    rw [hword, Proofs.decode_iowWord, decodeIow_data _ hoff]
  exact (step_runs hpending hdecode).trans (State.whenLive_live hlive _)

/-- Rules R117 to R119: an index write at offset 4 and a data write at offset 5 store the byte in the register selected
and correct the cursor pair, and every longer run goes on from there. -/
theorem run_programRegister {s : State} (hlive : s.lifecycle = .live) {i : BitVec 5} (hi : i.toNat ≤ 22) {v : Byte}
    {select store : Request} {rest : List Request} (hpending : s.pending = select :: store :: rest)
    (hselect : select.word = (0 : BitVec 20) ++ (4 : BitVec 4) ++ i.setWidth 8)
    (hstore : store.word = (0 : BitVec 20) ++ (5 : BitVec 4) ++ v) :
    ∃ t : State, (∀ n, Host.Core.run core (n + 2) s = Host.Core.run core n t) ∧ t.lifecycle = .live ∧
      t.pending = rest ∧ ∀ j, t.reg j = (s.setReg i v).cursorCorrection.reg j := by
  let selected := (s.accept select (store :: rest)).withIndex i
  have hfirst : step s = .next selected := step_selectRegister hlive rfl hpending hselect
  have hsecond := step_dataWrite (s := selected) hlive rfl rfl hstore
  obtain ⟨regs, visible, blank, draws, hw⟩ := (selected.accept store rest).writeData_frame v
  refine ⟨_, fun n => (run_succ hfirst _).trans (run_succ hsecond n), by rw [hw]; exact hlive, by rw [hw]; rfl,
    fun j => ?registers⟩
  case registers =>
    rw [State.writeData_reg _ v hi, State.cursorCorrection_reg, State.cursorCorrection_reg]
    simp [selected]

/-! ### The data read -/

/-- Rule R124: the byte a data read returns, with the sentinel written out. -/
theorem State.dataRead_eq (s : State) : s.dataRead = if 22 < s.crtcIndex.toNat then 0xFF else s.reg s.crtcIndex := by
  have haccess : s.indexAccessible = true ↔ ¬22 < s.crtcIndex.toNat := decide_eq_true_iff.trans Nat.not_lt.symm
  simp only [State.dataRead, haccess, ite_not]
  rfl

end Sys2Proof.Machine

namespace Sys2Proof.Proofs

open Sys2Proof.Machine

/-- The index ports of rule R88, listed. -/
theorem isIndexPort_of_listed {off : BitVec 4} (h : off = 0 ∨ off = 2 ∨ off = 4 ∨ off = 6) : isIndexPort off = true := by
  obtain rfl | rfl | rfl | rfl := h <;> rfl

/-- The data ports of rule R88, listed. -/
theorem isDataPort_of_listed {off : BitVec 4} (h : off = 1 ∨ off = 3 ∨ off = 5 ∨ off = 7) : isDataPort off = true := by
  obtain rfl | rfl | rfl | rfl := h <;> rfl

/-- Settles O7: the result exists since the device is live, and its fields follow from the transaction's effect. -/
theorem liveDeviceRunsEveryTransaction : Obligations.LiveDeviceRunsEveryTransaction := by
  intro i s hlive hinit hscale
  obtain ⟨t, ht⟩ := exec_live_next hlive hinit hscale
  refine ⟨t, ht, ?lifecycle, (runs_of_exec ht).keeps_stream⟩
  case lifecycle =>
    split_ifs with hclose
    · subst hclose
      obtain ⟨-, rfl⟩ := State.whenLive_next ht
      rfl
    · obtain ⟨-, -, -, -, -, -, -, -, hkept | hc, -⟩ := eachFieldChangesOnlyByItsWriters i s t hinit ht
      · exact hkept.trans hlive
      · exact absurd hc hclose

/-- Rule R234, one step: a live device under a dutiful host steps to a live device with the oldest transaction gone and
the same parameters. -/
theorem step_dutiful {s : State} (hlive : s.lifecycle = .live) (hhost : ∀ r ∈ s.pending, r.dutiful s.params = true) :
    ∃ t, step s = .next t ∧ t.lifecycle = .live ∧ t.pending = s.pending.tail ∧ t.params = s.params := by
  cases hpending : s.pending with
  | nil => exact ⟨s, step_idle hpending, hlive, hpending, rfl⟩
  | cons r rest =>
    obtain ⟨i, hdecode, hinit, hclose, hscale⟩ :=
      Request.decodes_of_dutiful (hhost r (hpending ▸ List.mem_cons_self))
    obtain ⟨t, ht, hlife, hqueue, hparams⟩ :=
      liveDeviceRunsEveryTransaction i (s.accept r rest) hlive hinit hscale
    exact ⟨t, (step_runs hpending hdecode).trans ht, hlife.trans (if_neg hclose), hqueue, hparams⟩

/-- Settles O8, by induction on the number of steps: each step leaves a live device whose queue is the tail of the one
before, so the host's duty holds of it too. -/
theorem dutifulHostIsNeverRefused : Obligations.DutifulHostIsNeverRefused := by
  intro n
  induction n with
  | zero => exact fun s hlive _ => ⟨s, rfl, hlive, rfl⟩
  | succ n ih =>
    intro s hlive hhost
    obtain ⟨t, hstep, htlive, hqueue, hparams⟩ := step_dutiful hlive hhost
    have hthost : ∀ r ∈ t.pending, r.dutiful t.params = true := fun r hr =>
      hparams ▸ hhost r (List.mem_of_mem_tail (hqueue ▸ hr))
    obtain ⟨u, hrun, hulive, hrest⟩ := ih t htlive hthost
    exact ⟨u, (run_succ hstep n).trans hrun, hulive, by rw [hrest, hqueue, List.drop_tail]⟩

/-- Settles O17: the first write leaves 6 in register 10, and with it the second completes the pair (6, 7). -/
theorem programmingSixThenSevenStoresElevenAndTwelve :
    Obligations.ProgrammingSixThenSevenStoresElevenAndTwelve := by
  intro s rest hlive h11 hpending
  obtain ⟨t, hrun, htlive, htpending, htreg⟩ := run_programRegister hlive (i := 10) (by decide) (v := 6) hpending rfl rfl
  obtain ⟨u, hrun', -, -, hureg⟩ := run_programRegister htlive (i := 11) (by decide) (v := 7) htpending rfl rfl
  have hsix : ∀ j, t.reg j = if j = 10 then 6 else s.reg j := fun j => by
    have hpair : ¬((s.setReg 10 6).reg 10 = 6 ∧ (s.setReg 10 6).reg 11 = 7) := by simpa using h11
    rw [htreg, State.cursorCorrection_reg, if_neg hpair, State.setReg_reg]
  have hcorrected : ∀ j, u.reg j = if j = 10 then 11 else if j = 11 then 12 else (t.setReg 11 7).reg j := fun j => by
    have hpair : (t.setReg 11 7).reg 10 = 6 ∧ (t.setReg 11 7).reg 11 = 7 := by simp [hsix]
    rw [hureg, State.cursorCorrection_reg, if_pos hpair]
  refine ⟨u, (hrun 2).trans (hrun' 0), hcorrected 10, hcorrected 11, fun j hj10 hj11 => ?others⟩
  case others => rw [hcorrected, if_neg hj10, if_neg hj11, State.setReg_reg, if_neg hj11, hsix, if_neg hj10]

/-- Settles O14: the 5 bits stored are the byte's low ones. -/
theorem indexWriteSelectsTheRegister : Obligations.IndexWriteSelectsTheRegister := by
  intro s off v hlive hoff
  refine ⟨?decodes, s.writeIndex v, State.whenLive_live hlive _, toNat_low5 v, rfl⟩
  case decodes => rw [decode_iowWord, decodeIow_index v (isIndexPort_of_listed hoff)]

/-- Settles O15: the write is the discarded one of rule R118. -/
theorem dataWriteAboveRegister22IsDropped : Obligations.DataWriteAboveRegister22IsDropped := fun _ _ v hlive hindex =>
  (State.whenLive_live hlive _).trans (congrArg _ (State.writeData_dropped hindex v))

/-- Settles O21: a 5-bit index is below 0x20 and fits a byte. -/
theorem indexReadReturnsTheIndex : Obligations.IndexReadReturnsTheIndex := by
  intro s off d hlive hoff
  have hbyte : (s.crtcIndex.setWidth 8).toNat = s.crtcIndex.toNat :=
    BitVec.toNat_setWidth_of_le (by decide)
  refine ⟨?decodes, s.crtcIndex.setWidth 8, State.whenLive_live hlive _, hbyte, ?range⟩
  case decodes => rw [decode_iorWord, decodeIor_index (isIndexPort_of_listed hoff)]
  case range =>
    have hindex : s.crtcIndex.toNat < 32 := s.crtcIndex.isLt
    omega

/-- Settles O22: the data ports decode to the read of `State.dataRead`. -/
theorem dataReadReturnsTheRegisterOrAllOnes : Obligations.DataReadReturnsTheRegisterOrAllOnes := by
  intro s off d hlive hoff
  refine ⟨?decodes, (State.whenLive_live hlive _).trans ?reply⟩
  case decodes => rw [decode_iorWord, decodeIor_data (isDataPort_of_listed hoff)]
  case reply =>
    rw [s.dataRead_eq]
    rfl

end Sys2Proof.Proofs

/-! The statements of spec/41_timing.md: the change of speed (O12, O13), the halves of a scanline (O36 to O38, O40 to
O47), the counters (O48) and the shape of a frame (O53). -/

namespace Sys2Proof.Machine

/-! ### Changes of the scale (rules R161, R162 and R241) -/

section
variable {s : State}

theorem State.changeSpeed_of_le (h : (s.reg 1).toNat ≤ (s.reg 0).toNat + 1) : s.changeSpeed =
    { s with
      tickScale := s.hostTickScale
      visiblePeriodTicks := (s.reg 1).toNat * s.hostTickScale
      blankPeriodTicks := ((s.reg 0).toNat + 1 - (s.reg 1).toNat) * s.hostTickScale } :=
  (s.withScale s.hostTickScale).recomputeTiming_of_le h

theorem State.changeSpeed_of_lt (h : (s.reg 0).toNat + 1 < (s.reg 1).toNat) : s.changeSpeed =
    { s with
      tickScale := s.hostTickScale
      visiblePeriodTicks := (s.reg 1).toNat * s.hostTickScale
      blankPeriodTicks := Config.freeBlankPeriod s.drawCount
      drawCount := s.drawCount + 1 } :=
  (s.withScale s.hostTickScale).recomputeTiming_of_lt h

end

/-! ### The word of a tick (rules R82 and R85) -/

/-- Rule R82: a word with K = 4 and Z = 0 is a tick. -/
theorem decode_of_kind_tick (p : Params) {w : Word32} (hz : reservedField w = 0) (hk : kindField w = 4) :
    decode p w = .ok .tick := by
  simp [decode, hz, hk]

/-- Rule R85: a tick's A and D are ignored. -/
theorem decode_tickWord (p : Params) (x : BitVec 24) : decode p ((0x40 : BitVec 8) ++ x) = .ok .tick := by
  have hx := x.isLt
  have hword : BitVec.toNat (w := 32) ((0x40 : BitVec 8) ++ x) = 0x40 * 2 ^ 24 + x.toNat :=
    (BitVec.toNat_append _ _).trans (by rw [← Nat.shiftLeft_add_eq_or_of_lt hx, Nat.shiftLeft_eq]; rfl)
  have hz : reservedField ((0x40 : BitVec 8) ++ x) = 0 := by
    apply BitVec.eq_of_toNat_eq
    rw [reservedField, BitVec.extractLsb'_toNat, hword, Nat.shiftRight_eq_div_pow]
    simp
    omega
  have hk : kindField ((0x40 : BitVec 8) ++ x) = 4 := by
    apply BitVec.eq_of_toNat_eq
    rw [kindField, BitVec.extractLsb'_toNat, hword, Nat.shiftRight_eq_div_pow]
    simp
    omega
  exact decode_of_kind_tick p hz hk

theorem decode_tickRequest (p : Params) : decode p tickRequest.word = .ok .tick := decode_tickWord p 0

/-! ### The blank half (rules R138 to R144)

A whole next state is compared with the written one after `cases s`: on a state written out field by field, `rfl` has
each field at hand. -/

/-- Rules R138, R139, R143 and R144: a blank half outside the display. -/
theorem State.blankHalf_dark {s : State} (h : s.displayActive = false) : s.blankHalf =
    { s with
      events := s.events ++ [.schedule s.blankPeriodTicks]
      accumulatedDeviceTime := s.accumulatedDeviceTime + s.blankPeriodTicks
      lineInFramePosition := true
      status := s.status ||| 0x01 |||
        (if s.verticalCounter.toNat = (s.reg 7).toNat ∧ s.scanlineCounter = 0 then 0x08 else 0x00)
      displayLine := (s.displayLine + 1) % 500 } := by
  have hdark : ¬(s.schedule s.blankPeriodTicks).enterBlankHalf.displayActive = true := Bool.eq_false_iff.1 h
  have hoff : (s.schedule s.blankPeriodTicks).enterBlankHalf.renderVisible s.renderRow =
      (s.schedule s.blankPeriodTicks).enterBlankHalf := if_neg hdark
  unfold State.blankHalf
  rw [hoff, State.vsyncStart_eq]
  cases s; rfl

/-- Rule R141: what the bookkeeping of the visible lines writes. -/
theorem State.visibleLineBookkeeping_eq (s : State) : s.visibleLineBookkeeping =
    { s with
      events := s.events ++ if (s.displayLine : Int) < s.firstVisibleLine then [.waitForBuffer] else []
      firstVisibleLine := if (s.displayLine : Int) < s.firstVisibleLine then s.displayLine else s.firstVisibleLine
      lastVisibleLine := s.displayLine } := by
  by_cases hfirst : (s.displayLine : Int) < s.firstVisibleLine
  · rw [s.visibleLineBookkeeping_first hfirst, if_pos hfirst, if_pos hfirst]
    cases s; rfl
  · rw [s.visibleLineBookkeeping_later hfirst, if_neg hfirst, if_neg hfirst, List.append_nil]
    cases s; rfl

/-- Rules R138 to R144: a blank half inside the display. -/
theorem State.blankHalf_visible {s : State} (h : s.displayActive = true) : s.blankHalf =
    { s with
      events := s.events ++ [.schedule s.blankPeriodTicks] ++
        (if (s.displayLine : Int) < s.firstVisibleLine then [.waitForBuffer] else []) ++
        [.line s.displayLine (s.renderLine s.renderRow).1]
      accumulatedDeviceTime := s.accumulatedDeviceTime + s.blankPeriodTicks
      lineInFramePosition := true
      status := s.status ||| 0x01 |||
        (if s.verticalCounter.toNat = (s.reg 7).toNat ∧ s.scanlineCounter = 0 then 0x08 else 0x00)
      firstVisibleLine := if (s.displayLine : Int) < s.firstVisibleLine then s.displayLine else s.firstVisibleLine
      lastVisibleLine := s.displayLine
      memoryAddress := s.memoryAddress + BitVec.ofNat 14 (s.reg 1).toNat
      displayLine := (s.displayLine + 1) % 500 } := by
  have hon : (s.schedule s.blankPeriodTicks).enterBlankHalf.displayActive = true := h
  have hline : (s.schedule s.blankPeriodTicks).enterBlankHalf.renderLine = s.renderLine :=
    State.renderLine_congr ((s.schedule_setup _).trans (State.enterBlankHalf_setup _)) rfl rfl rfl rfl
  unfold State.blankHalf
  rw [State.renderVisible_on _ _ hon, hline, State.renderLine_address, State.visibleLineBookkeeping_eq,
    State.vsyncStart_eq]
  cases s; rfl

/-- Rule R105: the strategy, by the register bits that select it. -/
theorem State.textVariant_eq (s : State) : s.textVariant =
    if (s.reg 20).getLsbD 0 = false then .rom else if (s.reg 20).getLsbD 2 = false then .ram4K else .ram48K := by
  unfold State.textVariant State.ramFont State.font48K
  cases (s.reg 20).getLsbD 0 <;> cases (s.reg 20).getLsbD 2 <;> rfl

/-- Rules R142, R94 and R105: the pixels of a line, by the register bits that select the strategy. -/
theorem State.renderLine_pixels (s : State) (row : Row) : (s.renderLine row).1 =
    if s.mode.getLsbD 1 ∧ s.modeExt.getLsbD 0 then (s.renderGraphics row).1
    else if (s.reg 20).getLsbD 0 = false then (s.renderTextRom row).1
    else if (s.reg 20).getLsbD 2 = false then (s.renderText4K row).1
    else (s.renderText48K row).1 := by
  unfold State.renderLine
  rw [s.textVariant_eq]
  simp only [s.graphicsMode_iff]
  split_ifs <;> rfl

/-! ### The end of a scanline leaves what the half opened with -/

/-- Two states agree on the fields that the steps of an active half before the scanline's end settle. -/
structure State.SameOpening (t u : State) : Prop where
  status : u.status = t.status
  lineInFramePosition : u.lineInFramePosition = t.lineInFramePosition
  accumulatedDeviceTime : u.accumulatedDeviceTime = t.accumulatedDeviceTime
  cursorEnabledWindow : u.cursorEnabledWindow = t.cursorEnabledWindow
  cursorDisabledWindow : u.cursorDisabledWindow = t.cursorDisabledWindow

namespace State.SameOpening

theorem refl (s : State) : s.SameOpening s := ⟨rfl, rfl, rfl, rfl, rfl⟩

theorem trans {t u v : State} (h : t.SameOpening u) (h' : u.SameOpening v) : t.SameOpening v := by
  cases h
  cases h'
  constructor <;> simp only [*]

theorem ite {c : Prop} [Decidable c] {t u v : State} (h : t.SameOpening u) (h' : t.SameOpening v) :
    t.SameOpening (if c then u else v) := by
  split
  · exact h
  · exact h'

theorem adjustLine (s : State) : s.SameOpening s.adjustLine :=
  .ite (by cases s; constructor <;> rfl) (by cases s; constructor <;> rfl)

theorem frameWrap (s : State) : s.SameOpening s.frameWrap := by
  rw [State.frameWrap_eq]
  cases s; constructor <;> rfl

theorem wrapRows (s : State) : s.SameOpening s.wrapRows := by
  have hrow : s.SameOpening s.startNextRow.displayedRowsDone :=
    .ite (by cases s; constructor <;> rfl) (by cases s; constructor <;> rfl)
  exact .ite (hrow.trans (frameWrap _)) hrow

theorem frameEnd (s : State) : s.SameOpening s.frameEnd := by
  have hresize : s.SameOpening (s.resizeIfChanged s.frameWidth s.frameHeight) :=
    .ite (by cases s; constructor <;> rfl) (refl s)
  have hpresent : (s.resizeIfChanged s.frameWidth s.frameHeight).SameOpening s.frameEnd := by
    constructor <;> simp [State.frameEnd, State.blitFrame, State.resetFrameBookkeeping]
  exact hresize.trans hpresent

theorem vsyncRow (s : State) : s.SameOpening s.vsyncRow := by
  have harmed : s.SameOpening (((s.withDisplay false).withDisplayLine 0).withVsync Config.vsyncLines) :=
    ⟨rfl, rfl, rfl, rfl, rfl⟩
  exact .ite harmed (harmed.trans (frameEnd _))

theorem endOfRow (s : State) : s.SameOpening s.endOfRow := .ite ((wrapRows s).trans (vsyncRow _)) (wrapRows s)

theorem endScanline (s : State) : s.SameOpening s.endScanline :=
  .ite (adjustLine s) (.ite (endOfRow s) (by cases s; constructor <;> rfl))

end State.SameOpening

/-! ### The end of a row (rules R150 to R158), as one update of each field -/

/-- Rule R164: the row counter goes up mod 128. -/
theorem row_succ_mod (r : BitVec 7) : (r.toNat + 1) % 128 = (r + 1).toNat := (BitVec.toNat_add r 1).symm

/-- Rules R150 and R151: the row after one that is not the frame's last. -/
theorem State.wrapRows_inner_eq {s : State} (h : s.verticalCounter.toNat ≠ (s.reg 4).toNat) : s.wrapRows =
    { s with
      memoryAddressBackup := s.memoryAddress
      scanlineCounter := 0
      verticalCounter := s.verticalCounter + 1
      displayActive := if (s.verticalCounter.toNat + 1) % 128 = (s.reg 6).toNat then false else s.displayActive } := by
  have hrow := row_succ_mod s.verticalCounter
  rw [s.wrapRows_inner h, State.displayedRowsDone_eq, hrow]
  cases s; rfl

/-- Rules R150 to R153: the row after the frame's last. -/
theorem State.wrapRows_last_eq {s : State} (h : s.verticalCounter.toNat = (s.reg 4).toNat) : s.wrapRows =
    { s with
      scanlineCounter := 0
      verticalCounter := 0
      verticalAdjustRemaining := s.reg 5
      displayActive := if s.reg 5 = 0 then true
        else if (s.verticalCounter.toNat + 1) % 128 = (s.reg 6).toNat then false else s.displayActive
      memoryAddress := if s.reg 5 = 0 then s.startAddress else s.memoryAddress
      memoryAddressBackup := if s.reg 5 = 0 then s.startAddress else s.memoryAddress
      cursorVisible := s.cursorGate } := by
  have hrow := row_succ_mod s.verticalCounter
  rw [s.wrapRows_last h, State.frameWrap_eq, State.displayedRowsDone_eq, hrow]
  cases s; rfl

/-- Rule R150: the row counter after a row ends: 0 after the frame's last row, otherwise up by 1 mod 128. -/
def State.rowAfter (s : State) : Nat :=
  if s.verticalCounter.toNat = (s.reg 4).toNat then 0 else (s.verticalCounter.toNat + 1) % 128

theorem State.rowAfter_last {s : State} (h : s.verticalCounter.toNat = (s.reg 4).toNat) : s.rowAfter = 0 := if_pos h

theorem State.rowAfter_inner {s : State} (h : s.verticalCounter.toNat ≠ (s.reg 4).toNat) :
    s.rowAfter = (s.verticalCounter.toNat + 1) % 128 := if_neg h

theorem State.wrapRows_row (s : State) : s.wrapRows.verticalCounter.toNat = s.rowAfter := by
  by_cases hlast : s.verticalCounter.toNat = (s.reg 4).toNat
  · rw [State.rowAfter_last hlast, State.wrapRows_last_eq hlast]
    rfl
  · rw [State.rowAfter_inner hlast, State.wrapRows_inner_eq hlast, row_succ_mod]

/-- Rule R150: the vertical-sync row's step runs where the row counter reaches register 7. -/
theorem State.endOfRow_eq (s : State) :
    s.endOfRow = if s.rowAfter = (s.reg 7).toNat then s.wrapRows.vsyncRow else s.wrapRows := by
  unfold State.endOfRow
  simp only [State.atRow_iff, s.wrapRows_row, s.wrapRows_setup.reg]

/-- Rules R154 and R155 with register 7 at 0: no frame ends. -/
theorem State.vsyncRow_zero {s : State} (h : s.reg 7 = 0) :
    s.vsyncRow = { s with displayActive := false, displayLine := 0, verticalSyncRemaining := 16 } := by
  unfold State.vsyncRow
  rw [if_pos h]
  rfl

/-- Rules R154 and R155 with register 7 not at 0: a frame ends. -/
theorem State.vsyncRow_frameEnd {s : State} (h : s.reg 7 ≠ 0) : s.vsyncRow =
    State.frameEnd { s with displayActive := false, displayLine := 0, verticalSyncRemaining := 16 } := by
  unfold State.vsyncRow
  rw [if_neg h]
  rfl

/-- Rule R156: whether the frame's size is not the screen's. -/
def State.resizes (s : State) : Bool := decide (s.frameWidth ≠ s.screenW ∨ s.frameHeight ≠ s.screenH)

/-- Rule R156: the screen's width from the frame's end on. -/
def State.presentedWidth (s : State) : Int := if s.resizes then s.clampWidth s.frameWidth else s.screenW

/-- Rule R156: the screen's height from the frame's end on. -/
def State.presentedHeight (s : State) : Int := if s.resizes then s.clampHeight s.frameHeight else s.screenH

/-- Rule R156: the request of a new size, where the size changes. -/
def State.resizeEvents (s : State) : List Event :=
  if s.resizes then [.resize s.presentedWidth s.presentedHeight] else []

theorem State.presented_of_resizes (s : State) (h : s.frameWidth ≠ s.screenW ∨ s.frameHeight ≠ s.screenH) :
    s.presentedWidth = s.clampWidth s.frameWidth ∧ s.presentedHeight = s.clampHeight s.frameHeight ∧
    s.resizeEvents = [.resize (s.clampWidth s.frameWidth) (s.clampHeight s.frameHeight)] := by
  have hyes : s.resizes = true := decide_eq_true h
  simp only [State.resizeEvents, State.presentedWidth, State.presentedHeight, if_pos hyes, and_self]

theorem State.presented_of_same (s : State) (h : ¬(s.frameWidth ≠ s.screenW ∨ s.frameHeight ≠ s.screenH)) :
    s.presentedWidth = s.screenW ∧ s.presentedHeight = s.screenH ∧ s.resizeEvents = [] := by
  have hno : ¬s.resizes = true := of_decide_eq_true.mt h
  simp only [State.resizeEvents, State.presentedWidth, State.presentedHeight, if_neg hno, and_self]

/-- Rules R155 to R158: the frame's end. -/
theorem State.frameEnd_eq (s : State) : s.frameEnd =
    { s with
      events := s.events ++ s.resizeEvents ++ [.blit s.firstVisibleLine s.frameHeight s.presentedWidth s.frameHeight]
      screenW := s.presentedWidth
      screenH := s.presentedHeight
      frameCounter := s.frameCounter + 1
      blinkCounter := s.blinkCounter + 1
      firstVisibleLine := s.params.firstReset
      lastVisibleLine := 0 } := by
  unfold State.frameEnd State.resizeIfChanged
  by_cases hresized : s.frameWidth ≠ s.screenW ∨ s.frameHeight ≠ s.screenH
  · obtain ⟨hwidth, hheight, hevents⟩ := s.presented_of_resizes hresized
    rw [if_pos hresized, hwidth, hheight, hevents]
    cases s; rfl
  · obtain ⟨hwidth, hheight, hevents⟩ := s.presented_of_same hresized
    rw [if_neg hresized, hwidth, hheight, hevents, List.append_nil]
    cases s; rfl

/-- Rule R155: the frame width, by the mode bits of rule R94. -/
theorem State.frameWidth_eq (s : State) : s.frameWidth =
    (if s.mode.getLsbD 1 ∧ s.modeExt.getLsbD 0 then 16 else 9) * ((s.reg 1).toNat : Int) := by
  unfold State.frameWidth
  simp only [s.graphicsMode_iff]
  cases s; rfl

/-! ### What the steps before the scanline's end leave -/

section
variable (s : State)

@[simp] theorem State.openActiveHalf_reg (i : BitVec 5) : s.openActiveHalf.reg i = s.reg i :=
  s.openActiveHalf_setup.reg i

@[simp] theorem State.openActiveHalf_verticalCounter : s.openActiveHalf.verticalCounter = s.verticalCounter := by
  rw [s.openActiveHalf_eq]; cases s; rfl

@[simp] theorem State.openActiveHalf_scanlineCounter : s.openActiveHalf.scanlineCounter = s.scanlineCounter := by
  rw [s.openActiveHalf_eq]; cases s; rfl

@[simp] theorem State.openActiveHalf_verticalAdjustRemaining :
    s.openActiveHalf.verticalAdjustRemaining = s.verticalAdjustRemaining := by
  rw [s.openActiveHalf_eq]; cases s; rfl

@[simp] theorem State.openActiveHalf_displayLine : s.openActiveHalf.displayLine = s.displayLine := by
  rw [s.openActiveHalf_eq]; cases s; rfl

@[simp] theorem State.openActiveHalf_events :
    s.openActiveHalf.events = s.events ++ [.schedule s.visiblePeriodTicks] := by
  rw [s.openActiveHalf_eq]; cases s; rfl

@[simp] theorem State.openActiveHalf_rowAfter : s.openActiveHalf.rowAfter = s.rowAfter := by
  unfold State.rowAfter
  rw [s.openActiveHalf_verticalCounter, s.openActiveHalf_reg]

end

/-- The steps before the scanline's end, but for the values of the status and cursor rules. -/
theorem State.openActiveHalf_flags (s : State) : ∃ status sync on off, s.openActiveHalf =
    { s with
      events := s.events ++ [.schedule s.visiblePeriodTicks]
      accumulatedDeviceTime := s.accumulatedDeviceTime + s.visiblePeriodTicks
      lineInFramePosition := false
      status := status
      verticalSyncRemaining := sync
      cursorEnabledWindow := on
      cursorDisabledWindow := off } :=
  ⟨s.openActiveHalf.status, s.openActiveHalf.verticalSyncRemaining, s.openActiveHalf.cursorEnabledWindow,
    s.openActiveHalf.cursorDisabledWindow, by rw [s.openActiveHalf_eq]; cases s; rfl⟩

/-- The state `t` with the fields of the status and cursor rules as they are in `s`. -/
def State.withFlagsOf (t s : State) : State :=
  { t with
    status := s.status
    verticalSyncRemaining := s.verticalSyncRemaining
    cursorEnabledWindow := s.cursorEnabledWindow
    cursorDisabledWindow := s.cursorDisabledWindow }

section
variable {s : State}

/-- Rule R159, but for the fields of the status and cursor rules. -/
theorem State.advance_insideRow (hhalf : s.lineInFramePosition = true) (hadjust : s.verticalAdjustRemaining = 0)
    (hrow : s.rowEnd = false) : s.advance.withFlagsOf s =
    { s with
      events := s.events ++ [.schedule s.visiblePeriodTicks]
      accumulatedDeviceTime := s.accumulatedDeviceTime + s.visiblePeriodTicks
      lineInFramePosition := false
      scanlineCounter := s.scanlineCounter + 1
      memoryAddress := s.memoryAddressBackup } := by
  obtain ⟨status, sync, on, off, hopen⟩ := s.openActiveHalf_flags
  rw [State.advance_next hhalf hadjust hrow, State.cursorOnBoundary_eq, hopen]
  cases s; rfl

/-- Rule R149, but for the fields of the status and cursor rules. -/
theorem State.advance_insideAdjust (hhalf : s.lineInFramePosition = true) (hadjust : s.verticalAdjustRemaining ≠ 0) :
    s.advance.withFlagsOf s =
    { s with
      events := s.events ++ [.schedule s.visiblePeriodTicks]
      accumulatedDeviceTime := s.accumulatedDeviceTime + s.visiblePeriodTicks
      lineInFramePosition := false
      verticalAdjustRemaining := s.verticalAdjustRemaining - 1
      scanlineCounter := if s.verticalAdjustRemaining = 1 then 0 else s.scanlineCounter + 1
      displayActive := if s.verticalAdjustRemaining = 1 then true else s.displayActive
      memoryAddress := if s.verticalAdjustRemaining = 1 then s.startAddress else s.memoryAddressBackup
      memoryAddressBackup := if s.verticalAdjustRemaining = 1 then s.startAddress else s.memoryAddressBackup } := by
  obtain ⟨status, sync, on, off, hopen⟩ := s.openActiveHalf_flags
  rw [State.advance_adjust hhalf hadjust, State.cursorOnBoundary_eq]
  unfold State.adjustLine
  rw [State.openActiveHalf_verticalAdjustRemaining]
  split_ifs with hlast
  · rw [hlast, hopen]
    cases s; rfl
  · rw [hopen]
    cases s; rfl

variable (hhalf : s.lineInFramePosition = true) (hadjust : s.verticalAdjustRemaining = 0) (hrow : s.rowEnd = true)
include hhalf hadjust hrow

/-- An active half that ends a row before the vertical-sync row (rules R150 and R154). -/
theorem State.advance_syncRow (hsync : s.rowAfter = (s.reg 7).toNat) :
    s.advance = s.openActiveHalf.wrapRows.vsyncRow.cursorOnBoundary := by
  rw [State.advance_row hhalf hadjust hrow, State.endOfRow_eq, if_pos (by simpa using hsync)]

/-- An active half that ends a row before any other row (rule R150). -/
theorem State.advance_otherRow (hsync : s.rowAfter ≠ (s.reg 7).toNat) :
    s.advance = s.openActiveHalf.wrapRows.cursorOnBoundary := by
  rw [State.advance_row hhalf hadjust hrow, State.endOfRow_eq, if_neg (by simpa using hsync)]

/-- Rules R150 and R151, where neither the frame wrap nor the vertical-sync row follows, but for the fields of the
status and cursor rules. -/
theorem State.advance_innerRow (hwrap : s.verticalCounter.toNat ≠ (s.reg 4).toNat)
    (hsync : (s.verticalCounter.toNat + 1) % 128 ≠ (s.reg 7).toNat) : s.advance.withFlagsOf s =
    { s with
      events := s.events ++ [.schedule s.visiblePeriodTicks]
      accumulatedDeviceTime := s.accumulatedDeviceTime + s.visiblePeriodTicks
      lineInFramePosition := false
      memoryAddressBackup := s.memoryAddress
      scanlineCounter := 0
      verticalCounter := s.verticalCounter + 1
      displayActive := if (s.verticalCounter.toNat + 1) % 128 = (s.reg 6).toNat then false else s.displayActive } := by
  rw [← State.rowAfter_inner hwrap] at hsync
  obtain ⟨status, sync, on, off, hopen⟩ := s.openActiveHalf_flags
  rw [State.advance_otherRow hhalf hadjust hrow hsync, State.cursorOnBoundary_eq,
    State.wrapRows_inner_eq (by simpa using hwrap), hopen]
  cases s; rfl

/-- Rules R150 to R153, where the frame wraps before a row that is not the vertical-sync row, but for the fields of the
status and cursor rules. -/
theorem State.advance_frameWrap (hwrap : s.verticalCounter.toNat = (s.reg 4).toNat) (hsync : s.reg 7 ≠ 0) :
    s.advance.withFlagsOf s =
    { s with
      events := s.events ++ [.schedule s.visiblePeriodTicks]
      accumulatedDeviceTime := s.accumulatedDeviceTime + s.visiblePeriodTicks
      lineInFramePosition := false
      scanlineCounter := 0
      verticalCounter := 0
      verticalAdjustRemaining := s.reg 5
      displayActive := if s.reg 5 = 0 then true
        else if (s.verticalCounter.toNat + 1) % 128 = (s.reg 6).toNat then false else s.displayActive
      memoryAddress := if s.reg 5 = 0 then s.startAddress else s.memoryAddress
      memoryAddressBackup := if s.reg 5 = 0 then s.startAddress else s.memoryAddress
      cursorVisible := s.cursorGate } := by
  have hother : s.rowAfter ≠ (s.reg 7).toNat := by
    rw [State.rowAfter_last hwrap]
    exact fun h => hsync (BitVec.eq_of_toNat_eq h.symm)
  obtain ⟨status, sync, on, off, hopen⟩ := s.openActiveHalf_flags
  rw [State.advance_otherRow hhalf hadjust hrow hother, State.cursorOnBoundary_eq,
    State.wrapRows_last_eq (by simpa using hwrap), hopen]
  cases s; rfl

/-- Rules R154 and R155 where the frame wraps to a vertical-sync row 0, but for the fields of the status and cursor
rules. -/
theorem State.advance_syncRowZero_wrap (hwrap : s.verticalCounter.toNat = (s.reg 4).toNat) (hzero : s.reg 7 = 0) :
    s.advance.withFlagsOf s =
    { s with
      events := s.events ++ [.schedule s.visiblePeriodTicks]
      accumulatedDeviceTime := s.accumulatedDeviceTime + s.visiblePeriodTicks
      lineInFramePosition := false
      scanlineCounter := 0
      verticalCounter := 0
      verticalAdjustRemaining := s.reg 5
      displayActive := false
      displayLine := 0
      memoryAddress := if s.reg 5 = 0 then s.startAddress else s.memoryAddress
      memoryAddressBackup := if s.reg 5 = 0 then s.startAddress else s.memoryAddress
      cursorVisible := s.cursorGate } := by
  have hsync : s.rowAfter = (s.reg 7).toNat := by
    rw [State.rowAfter_last hwrap, hzero]
    rfl
  have hzero' : s.openActiveHalf.wrapRows.reg 7 = 0 := by
    rw [(State.wrapRows_setup _).reg, State.openActiveHalf_reg, hzero]
  obtain ⟨status, sync, on, off, hopen⟩ := s.openActiveHalf_flags
  rw [State.advance_syncRow hhalf hadjust hrow hsync, State.vsyncRow_zero hzero',
    State.wrapRows_last_eq (by simpa using hwrap), State.cursorOnBoundary_eq, hopen]
  cases s; rfl

/-- Rules R154 and R155 where the row counter itself wraps to a vertical-sync row 0, but for the fields of the status
and cursor rules. -/
theorem State.advance_syncRowZero_inner (hwrap : s.verticalCounter.toNat ≠ (s.reg 4).toNat)
    (hlast : s.verticalCounter.toNat = 127) (hzero : s.reg 7 = 0) : s.advance.withFlagsOf s =
    { s with
      events := s.events ++ [.schedule s.visiblePeriodTicks]
      accumulatedDeviceTime := s.accumulatedDeviceTime + s.visiblePeriodTicks
      lineInFramePosition := false
      scanlineCounter := 0
      verticalCounter := s.verticalCounter + 1
      displayActive := false
      displayLine := 0
      memoryAddressBackup := s.memoryAddress } := by
  have hsync : s.rowAfter = (s.reg 7).toNat := by
    rw [State.rowAfter_inner hwrap, hlast, hzero]
    rfl
  have hzero' : s.openActiveHalf.wrapRows.reg 7 = 0 := by
    rw [(State.wrapRows_setup _).reg, State.openActiveHalf_reg, hzero]
  obtain ⟨status, sync, on, off, hopen⟩ := s.openActiveHalf_flags
  rw [State.advance_syncRow hhalf hadjust hrow hsync, State.vsyncRow_zero hzero',
    State.wrapRows_inner_eq (by simpa using hwrap), State.cursorOnBoundary_eq, hopen]
  cases s; rfl

/-- Rules R154 to R158 where a row ends before a vertical-sync row other than 0, but for the fields of the status and
cursor rules. -/
theorem State.advance_frameEnd (hwrap : s.verticalCounter.toNat ≠ (s.reg 4).toNat)
    (hsync : (s.verticalCounter.toNat + 1) % 128 = (s.reg 7).toNat) (hzero : s.reg 7 ≠ 0) : s.advance.withFlagsOf s =
    { s with
      events := s.events ++ [.schedule s.visiblePeriodTicks] ++ s.resizeEvents ++
        [.blit s.firstVisibleLine s.frameHeight s.presentedWidth s.frameHeight]
      accumulatedDeviceTime := s.accumulatedDeviceTime + s.visiblePeriodTicks
      lineInFramePosition := false
      scanlineCounter := 0
      verticalCounter := s.verticalCounter + 1
      displayActive := false
      displayLine := 0
      memoryAddressBackup := s.memoryAddress
      screenW := s.presentedWidth
      screenH := s.presentedHeight
      frameCounter := s.frameCounter + 1
      blinkCounter := s.blinkCounter + 1
      firstVisibleLine := s.params.firstReset
      lastVisibleLine := 0 } := by
  have hreached : s.rowAfter = (s.reg 7).toNat := (State.rowAfter_inner hwrap).trans hsync
  have hzero' : s.openActiveHalf.wrapRows.reg 7 ≠ 0 := by
    rwa [(State.wrapRows_setup _).reg, State.openActiveHalf_reg]
  obtain ⟨status, sync, on, off, hopen⟩ := s.openActiveHalf_flags
  rw [State.advance_syncRow hhalf hadjust hrow hreached, State.vsyncRow_frameEnd hzero',
    State.wrapRows_inner_eq (by simpa using hwrap), State.frameEnd_eq, State.cursorOnBoundary_eq, hopen]
  cases s; rfl

end

/-! ### What the scanline's end does to the counters and the countdown -/

section
variable (s : State)

/-- Everything the scanline's end can do (rules R145 and R150). -/
theorem State.endScanline_cases :
    (s.verticalAdjustRemaining ≠ 0 ∧ s.endScanline = s.adjustLine) ∨
    (s.verticalAdjustRemaining = 0 ∧ s.rowEnd = false ∧ s.endScanline = s.nextScanline) ∨
    (s.verticalAdjustRemaining = 0 ∧ s.rowEnd = true ∧ s.rowAfter ≠ (s.reg 7).toNat ∧
      s.endScanline = s.wrapRows) ∨
    (s.verticalAdjustRemaining = 0 ∧ s.rowEnd = true ∧ s.rowAfter = (s.reg 7).toNat ∧
      s.endScanline = s.wrapRows.vsyncRow) := by
  unfold State.endScanline
  rw [s.endOfRow_eq]
  split_ifs with hadjust hrow hsync
  · exact .inl ⟨hadjust, rfl⟩
  · exact .inr (.inr (.inr ⟨not_not.1 hadjust, hrow, hsync, rfl⟩))
  · exact .inr (.inr (.inl ⟨not_not.1 hadjust, hrow, hsync, rfl⟩))
  · exact .inr (.inl ⟨not_not.1 hadjust, Bool.eq_false_iff.2 hrow, rfl⟩)

/-- Rule R149: what an adjust scanline does to the counters and the countdown. -/
theorem State.adjustLine_counters :
    s.adjustLine.verticalSyncRemaining = s.verticalSyncRemaining ∧ s.adjustLine.verticalCounter = s.verticalCounter ∧
    s.adjustLine.displayLine = s.displayLine ∧
    (s.adjustLine.scanlineCounter = s.scanlineCounter + 1 ∨ s.adjustLine.scanlineCounter = 0) := by
  unfold State.adjustLine
  split_ifs
  · simp [State.restartDisplay, State.nextScanline]
  · simp [State.nextScanline]

/-- Rule R150: what the end of a row does to the counters and the countdown. -/
theorem State.wrapRows_counters :
    s.wrapRows.verticalSyncRemaining = s.verticalSyncRemaining ∧
    (s.wrapRows.verticalCounter = s.verticalCounter + 1 ∨ s.wrapRows.verticalCounter = 0) ∧
    s.wrapRows.displayLine = s.displayLine ∧ s.wrapRows.scanlineCounter = 0 := by
  by_cases hlast : s.verticalCounter.toNat = (s.reg 4).toNat
  · simp [State.wrapRows_last_eq hlast]
  · simp [State.wrapRows_inner_eq hlast]

/-- Rule R154: what the vertical-sync row does to the counters and the countdown. -/
theorem State.vsyncRow_counters :
    s.vsyncRow.verticalSyncRemaining = 16 ∧ s.vsyncRow.verticalCounter = s.verticalCounter ∧
    s.vsyncRow.displayLine = 0 ∧ s.vsyncRow.scanlineCounter = s.scanlineCounter := by
  by_cases hzero : s.reg 7 = 0
  · simp [State.vsyncRow_zero hzero]
  · simp [State.vsyncRow_frameEnd hzero, State.frameEnd_eq]

/-- Rule R154: the scanline's end arms the countdown exactly where a row ends before the vertical-sync row. -/
theorem State.endScanline_countdown : s.endScanline.verticalSyncRemaining =
    if (s.verticalAdjustRemaining = 0 ∧ s.rowEnd = true) ∧ s.rowAfter = (s.reg 7).toNat then 16
    else s.verticalSyncRemaining := by
  obtain ⟨hadjust, h⟩ | ⟨hadjust, hrow, h⟩ | ⟨hadjust, hrow, hsync, h⟩ | ⟨hadjust, hrow, hsync, h⟩ :=
    s.endScanline_cases <;> rw [h]
  · rw [if_neg fun ⟨⟨hzero, _⟩, _⟩ => hadjust hzero]
    exact s.adjustLine_counters.1
  · rw [if_neg fun ⟨⟨_, hends⟩, _⟩ => Bool.false_ne_true (hrow.symm.trans hends)]
    rfl
  · rw [if_neg fun ⟨_, hreached⟩ => hsync hreached]
    exact s.wrapRows_counters.1
  · rw [if_pos ⟨⟨hadjust, hrow⟩, hsync⟩]
    exact s.wrapRows.vsyncRow_counters.1

/-- Rule R164: what the scanline's end can do to the counters. -/
theorem State.endScanline_counters :
    (s.endScanline.scanlineCounter = s.scanlineCounter + 1 ∨ s.endScanline.scanlineCounter = 0) ∧
    (s.endScanline.verticalCounter = s.verticalCounter ∨ s.endScanline.verticalCounter = s.verticalCounter + 1 ∨
      s.endScanline.verticalCounter = 0) ∧
    (s.endScanline.displayLine = s.displayLine ∨ s.endScanline.displayLine = 0) := by
  obtain ⟨-, h⟩ | ⟨-, -, h⟩ | ⟨-, -, -, h⟩ | ⟨-, -, -, h⟩ := s.endScanline_cases <;> rw [h]
  · obtain ⟨-, hrow, hline, hscan⟩ := s.adjustLine_counters
    exact ⟨hscan, .inl hrow, .inl hline⟩
  · exact ⟨.inl rfl, .inl rfl, .inl rfl⟩
  · obtain ⟨-, hrow, hline, hscan⟩ := s.wrapRows_counters
    exact ⟨.inr hscan, .inr hrow, .inl hline⟩
  · obtain ⟨-, hrow, -, hscan⟩ := s.wrapRows_counters
    obtain ⟨-, hkept, hline, hscan'⟩ := s.wrapRows.vsyncRow_counters
    exact ⟨.inr (hscan'.trans hscan), .inr (by rwa [hkept]), .inr hline⟩

end

/-- Rule R127: the scanline's end only appends events. -/
theorem State.endScanline_events (s : State) : ∃ more, s.endScanline.events = s.events ++ more := by
  obtain ⟨-, more, -, hevents, -, -⟩ := (State.SameButPixels.start s s.vram).endScanline
  exact ⟨more, hevents⟩

/-! ### The two halves -/

section
variable {s : State}

/-- An active half is its opening steps, the scanline's end and the opening of the cursor window (rule R145). -/
theorem State.advance_active (hhalf : s.lineInFramePosition = true) :
    s.advance = s.openActiveHalf.endScanline.cursorOnBoundary := if_pos hhalf

theorem State.advance_status (hhalf : s.lineInFramePosition = true) : s.advance.status =
    s.status &&& (if s.displayActive then 0xFE else 0xFF) &&& (if s.verticalSyncRemaining = 1 then 0xF7 else 0xFF) := by
  rw [State.advance_active hhalf, State.cursorOnBoundary_eq, State.withCursorWindow_status,
    (State.SameOpening.endScanline _).status, State.openActiveHalf_eq]
  cases s; rfl

/-- Rule R147: the countdown of the half itself. -/
theorem State.openActiveHalf_countdown (s : State) :
    s.openActiveHalf.verticalSyncRemaining.toNat = s.verticalSyncRemaining.toNat - 1 := by
  have hcount : s.openActiveHalf.verticalSyncRemaining =
      s.verticalSyncRemaining - if s.verticalSyncRemaining = 0 then 0 else 1 := by
    rw [State.openActiveHalf_eq]
    cases s; rfl
  rw [hcount]
  split_ifs <;> bv_omega

/-- Rules R147 and R154: the countdown after an active half. -/
theorem State.advance_countdown (hhalf : s.lineInFramePosition = true) : s.advance.verticalSyncRemaining.toNat =
    if (s.verticalAdjustRemaining = 0 ∧ s.rowEnd = true) ∧ s.rowAfter = (s.reg 7).toNat then 16
    else s.verticalSyncRemaining.toNat - 1 := by
  rw [State.advance_active hhalf, State.cursorOnBoundary_eq, State.withCursorWindow_verticalSyncRemaining,
    State.endScanline_countdown, State.openActiveHalf_verticalAdjustRemaining, State.openActiveHalf_rowEnd,
    State.openActiveHalf_rowAfter, State.openActiveHalf_reg, apply_ite BitVec.toNat, State.openActiveHalf_countdown]
  rfl

/-- Rule R154: where a row ends before the vertical-sync row, the countdown is armed to 16. -/
theorem State.advance_armed (hhalf : s.lineInFramePosition = true) (hadjust : s.verticalAdjustRemaining = 0)
    (hrow : s.rowEnd = true) (hsync : s.rowAfter = (s.reg 7).toNat) : s.advance.verticalSyncRemaining = 16 := by
  apply BitVec.eq_of_toNat_eq
  rw [State.advance_countdown hhalf, if_pos ⟨⟨hadjust, hrow⟩, hsync⟩]
  rfl

theorem State.withCursorWindow_atCursorRow (s : State) (on off : Bool) (row : Row) :
    (s.withCursorWindow on off).atCursorRow row = s.atCursorRow row := by
  cases s; rfl

/-- Rules R148 and R160: the cursor window after an active half. -/
theorem State.advance_cursorWindow (hhalf : s.lineInFramePosition = true) :
    s.advance.cursorEnabledWindow =
      ((s.cursorEnabledWindow && !s.atCursorRow s.cursorEndRow) || s.advance.atCursorRow s.cursorStartRow) ∧
    s.advance.cursorDisabledWindow = (s.cursorDisabledWindow || s.atCursorRow s.cursorEndRow) := by
  have hend := State.SameOpening.endScanline s.openActiveHalf
  have hstart : s.openActiveHalf.endScanline.cursorStartRow = s.cursorStartRow := by
    simp only [State.cursorStartRow, (State.endScanline_setup _).reg, State.openActiveHalf_reg]
  have hopen : s.openActiveHalf.cursorEnabledWindow = (s.cursorEnabledWindow && !s.atCursorRow s.cursorEndRow) ∧
      s.openActiveHalf.cursorDisabledWindow = (s.cursorDisabledWindow || s.atCursorRow s.cursorEndRow) := by
    rw [State.openActiveHalf_eq]
    cases s; exact ⟨rfl, rfl⟩
  rw [State.advance_active hhalf, State.cursorOnBoundary_eq, State.withCursorWindow_atCursorRow,
    State.withCursorWindow_cursorEnabledWindow, State.withCursorWindow_cursorDisabledWindow, hend.cursorEnabledWindow,
    hend.cursorDisabledWindow, hopen.1, hopen.2, hstart]
  exact ⟨rfl, rfl⟩

/-- Rule R164 for a tick: the counters stay, go up by 1 mod their range or restart. -/
theorem State.advance_counters (s : State) :
    (s.advance.scanlineCounter = s.scanlineCounter ∨ s.advance.scanlineCounter = s.scanlineCounter + 1 ∨
      s.advance.scanlineCounter = 0) ∧
    (s.advance.verticalCounter = s.verticalCounter ∨ s.advance.verticalCounter = s.verticalCounter + 1 ∨
      s.advance.verticalCounter = 0) ∧
    (s.advance.displayLine = s.displayLine ∨ s.advance.displayLine = (s.displayLine + 1) % 500 ∨
      s.advance.displayLine = 0) := by
  cases hhalf : s.lineInFramePosition with
  | false =>
    rw [State.advance_blank hhalf]
    cases hactive : s.displayActive with
    | false => simp [State.blankHalf_dark hactive]
    | true => simp [State.blankHalf_visible hactive]
  | true =>
    obtain ⟨hscan, hrow, hline⟩ := s.openActiveHalf.endScanline_counters
    simp only [State.openActiveHalf_scanlineCounter, State.openActiveHalf_verticalCounter,
      State.openActiveHalf_displayLine] at hscan hrow hline
    rw [State.advance_active hhalf, State.cursorOnBoundary_eq, State.withCursorWindow_scanlineCounter,
      State.withCursorWindow_verticalCounter, State.withCursorWindow_displayLine]
    exact ⟨.inr hscan, hrow, hline.imp_right .inr⟩

/-- Rules R136 and R137: a tick opens with its event, adds its period and toggles the half. -/
theorem State.advance_opening (s : State) : ∃ more,
    s.advance.events = s.events ++
      [.schedule (if s.lineInFramePosition then s.visiblePeriodTicks else s.blankPeriodTicks)] ++ more ∧
    s.advance.accumulatedDeviceTime = s.accumulatedDeviceTime +
      (if s.lineInFramePosition then s.visiblePeriodTicks else s.blankPeriodTicks) ∧
    s.advance.lineInFramePosition = !s.lineInFramePosition := by
  cases hhalf : s.lineInFramePosition with
  | false =>
    rw [State.advance_blank hhalf]
    cases hactive : s.displayActive with
    | false =>
      rw [State.blankHalf_dark hactive]
      exact ⟨[], (List.append_nil _).symm, rfl, rfl⟩
    | true =>
      rw [State.blankHalf_visible hactive]
      exact ⟨_, List.append_assoc _ _ _, rfl, rfl⟩
  | true =>
    obtain ⟨more, hevents⟩ := s.openActiveHalf.endScanline_events
    have hend := State.SameOpening.endScanline s.openActiveHalf
    have hopen : s.openActiveHalf.accumulatedDeviceTime = s.accumulatedDeviceTime + s.visiblePeriodTicks ∧
        s.openActiveHalf.lineInFramePosition = false := by
      rw [State.openActiveHalf_eq]
      cases s; exact ⟨rfl, rfl⟩
    rw [State.openActiveHalf_events] at hevents
    rw [State.advance_active hhalf, State.cursorOnBoundary_eq, State.withCursorWindow_events,
      State.withCursorWindow_accumulatedDeviceTime, State.withCursorWindow_lineInFramePosition,
      hend.accumulatedDeviceTime, hend.lineInFramePosition, hopen.1, hopen.2]
    exact ⟨more, hevents, rfl, rfl⟩

end

/-! ### The shape of a frame (rule R165), from the registers of the state it starts in -/

section
variable (s : State)

/-- The scanlines of a character row. -/
def State.rowHeight : Nat := (s.reg 9).toNat + 1

/-- The scanlines from a frame's start to its first visible scanline: the rows from the vertical-sync row to the last,
and the adjust. -/
def State.linesBefore : Nat := ((s.reg 4).toNat - (s.reg 7).toNat + 1) * s.rowHeight + (s.reg 5).toNat

/-- The visible scanlines of a frame. -/
def State.linesVisible : Nat := (s.reg 6).toNat * s.rowHeight

/-- All scanlines of a frame. -/
def State.linesTotal : Nat := ((s.reg 4).toNat + 1) * s.rowHeight + (s.reg 5).toNat

/-- What rule R165 asks of the registers. -/
structure State.FrameShape : Prop where
  single : s.reg 8 &&& 3 ≠ 3
  scanlines : (s.reg 9).toNat ≤ 31
  visible : 1 ≤ (s.reg 6).toNat
  visible_le_sync : (s.reg 6).toNat ≤ (s.reg 7).toNat
  sync_le_last : (s.reg 7).toNat ≤ (s.reg 4).toNat
  last : (s.reg 4).toNat ≤ 127

variable {s}

/-- The rows from 0 to the vertical-sync row follow the adjust. -/
theorem State.FrameShape.linesTotal_eq (h : s.FrameShape) :
    s.linesTotal = s.linesBefore + (s.reg 7).toNat * s.rowHeight := by
  have hle := h.sync_le_last
  have hrows : (s.reg 4).toNat + 1 = ((s.reg 4).toNat - (s.reg 7).toNat + 1) + (s.reg 7).toNat := by omega
  unfold State.linesTotal State.linesBefore
  rw [hrows, Nat.add_mul]
  omega

theorem State.FrameShape.linesVisible_pos (h : s.FrameShape) : 0 < s.linesVisible :=
  Nat.mul_pos h.visible (Nat.succ_pos _)

/-- A scanline of row `r` comes before row `g` exactly where `r` does. -/
theorem row_scanline_lt_iff {r c g height : Nat} (hc : c < height) : r * height + c < g * height ↔ r < g := by
  have hpos : 0 < height := by omega
  rw [← Nat.div_lt_iff_lt_mul hpos, Nat.mul_comm, Nat.mul_add_div hpos, Nat.div_eq_of_lt hc, Nat.add_zero]

/-! ### Where a scanline lies in its frame -/

/-- The state `t` is at the scanline that starts `k` scanlines after the start of a frame with the registers of `s`. -/
inductive State.AtScanline (s t : State) (k : Nat) : Prop
  /-- In the rows from the vertical-sync row on, `d` rows below it. -/
  | lower (d : Nat) (hlast : (s.reg 7).toNat + d ≤ (s.reg 4).toNat)
      (hk : k = d * s.rowHeight + t.scanlineCounter.toNat) (hscan : t.scanlineCounter.toNat < s.rowHeight)
      (hrow : t.verticalCounter.toNat = (s.reg 7).toNat + d)
      (hadjust : t.verticalAdjustRemaining = 0) (hoff : t.displayActive = false)
  /-- In the adjust. -/
  | adjust (hk : k + t.verticalAdjustRemaining.toNat = s.linesBefore) (hadjust : t.verticalAdjustRemaining ≠ 0)
      (hrow : t.verticalCounter = 0) (hoff : t.displayActive = false)
  /-- In the rows from 0 to the vertical-sync row. -/
  | upper (hk : k = s.linesBefore + (t.verticalCounter.toNat * s.rowHeight + t.scanlineCounter.toNat))
      (hscan : t.scanlineCounter.toNat < s.rowHeight) (hrow : t.verticalCounter.toNat < (s.reg 7).toNat)
      (hadjust : t.verticalAdjustRemaining = 0)
      (hon : t.displayActive = decide (t.verticalCounter.toNat < (s.reg 6).toNat))

namespace State.AtScanline

variable {t u : State} {k : Nat}

/-- Only the counters and the display flag decide where a scanline lies. -/
theorem congr (h : s.AtScanline t k) (hrow : u.verticalCounter = t.verticalCounter)
    (hscan : u.scanlineCounter = t.scanlineCounter) (hadjust : u.verticalAdjustRemaining = t.verticalAdjustRemaining)
    (hactive : u.displayActive = t.displayActive) : s.AtScanline u k := by
  cases h with
  | lower d hlast =>
    exact .lower d hlast (by rwa [hscan]) (by rwa [hscan]) (by rwa [hrow]) (by rwa [hadjust]) (by rwa [hactive])
  | adjust => exact .adjust (by rwa [hadjust]) (by rwa [hadjust]) (by rwa [hrow]) (by rwa [hactive])
  | upper =>
    exact .upper (by rwa [hrow, hscan]) (by rwa [hscan]) (by rwa [hrow]) (by rwa [hadjust]) (by rwa [hactive, hrow])

/-- The rows from the vertical-sync row to the last, and the adjust after them, come before the visible scanlines. -/
theorem lower_lt {d c : Nat} (hlast : (s.reg 7).toNat + d ≤ (s.reg 4).toNat) (hc : c < s.rowHeight) :
    d * s.rowHeight + c + (s.reg 5).toNat < s.linesBefore := by
  have hrow : d < (s.reg 4).toNat - (s.reg 7).toNat + 1 := by omega
  exact Nat.add_lt_add_right ((row_scanline_lt_iff hc).2 hrow) _

/-- An adjust that is pending has scanlines left. -/
theorem adjust_pos (hadjust : t.verticalAdjustRemaining ≠ 0) : 0 < t.verticalAdjustRemaining.toNat :=
  Nat.pos_of_ne_zero fun h => hadjust (BitVec.eq_of_toNat_eq h)

/-- Rule R165: the visible scanlines lie together. -/
theorem displayActive_eq (h : s.AtScanline t k) :
    t.displayActive = decide (s.linesBefore ≤ k ∧ k < s.linesBefore + s.linesVisible) := by
  cases h with
  | lower d hlast hk hscan hrow hadjust hoff =>
    have hbefore := lower_lt hlast hscan
    rw [hoff, eq_comm, decide_eq_false_iff_not]
    omega
  | adjust hk hadjust hrow hoff =>
    have hpos := adjust_pos hadjust
    rw [hoff, eq_comm, decide_eq_false_iff_not]
    omega
  | upper hk hscan hrow hadjust hon =>
    rw [hon, decide_eq_decide, ← row_scanline_lt_iff hscan, State.linesVisible]
    omega

end State.AtScanline

end

/-! ### One scanline of a frame -/

/-- The active half from `t` to `u` ends no frame and reaches the scanline `k` of the frame of `s`. -/
structure State.Reaches (s t u : State) (k : Nat) : Prop where
  position : s.AtScanline u k
  half : u.lineInFramePosition = false
  line : u.displayLine = t.displayLine
  frames : u.frameCounter = t.frameCounter
  blinks : u.blinkCounter = t.blinkCounter
  events : u.events = t.events ++ [.schedule t.visiblePeriodTicks]

/-- The fields of the status and cursor rules play no part in it. -/
theorem State.Reaches.of_withFlagsOf {s t u v : State} {k : Nat} (h : u.withFlagsOf t = v) (hv : s.Reaches t v k) :
    s.Reaches t u k := by
  subst h
  exact ⟨hv.position.congr rfl rfl rfl rfl, hv.half, hv.line, hv.frames, hv.blinks, hv.events⟩

/-- Without doubling, a row ends at its last scanline. -/
theorem State.FrameShape.rowEnd_iff {s t : State} (hshape : s.FrameShape) (hregs : ∀ i, t.reg i = s.reg i) :
    t.rowEnd = true ↔ t.scanlineCounter.toNat + 1 = s.rowHeight := by
  rw [t.rowEnd_of_single (by rw [hregs]; exact hshape.single), hregs, State.rowHeight]
  omega

/-- A scanline that does not end its row counts up without wrapping. -/
theorem State.FrameShape.scanline_succ {s : State} (hshape : s.FrameShape) {c : BitVec 5}
    (hscan : c.toNat + 1 < s.rowHeight) : (c + 1).toNat = c.toNat + 1 := by
  have hlast := hshape.scanlines
  unfold State.rowHeight at hscan
  exact BitVec.toNat_add_of_lt (by simp; omega)

/-- A row before the last counts up without wrapping. -/
theorem State.FrameShape.row_succ {s : State} (hshape : s.FrameShape) {r : BitVec 7}
    (hrow : r.toNat < (s.reg 4).toNat) : (r + 1).toNat = r.toNat + 1 ∧ (r.toNat + 1) % 128 = r.toNat + 1 := by
  have hlast := hshape.last
  exact ⟨BitVec.toNat_add_of_lt (by simp; omega), Nat.mod_eq_of_lt (by omega)⟩

theorem State.FrameShape.sync_ne_zero {s : State} (hshape : s.FrameShape) : s.reg 7 ≠ 0 := fun hzero => by
  have hpos : 0 < (s.reg 7).toNat := Nat.lt_of_lt_of_le hshape.visible hshape.visible_le_sync
  rw [hzero] at hpos
  exact absurd hpos (by decide)

namespace State.AtScanline

variable {s t : State} {k : Nat}

/-- Rules R149 and R152: the display starts at row 0. -/
theorem first (hshape : s.FrameShape) (hk : k = s.linesBefore) (hrow : t.verticalCounter = 0)
    (hscan : t.scanlineCounter = 0) (hadjust : t.verticalAdjustRemaining = 0) (hon : t.displayActive = true) :
    s.AtScanline t k := by
  have hvisible : t.verticalCounter.toNat < (s.reg 6).toNat := by
    rw [hrow]
    exact hshape.visible
  have hk' : k = s.linesBefore + (t.verticalCounter.toNat * s.rowHeight + t.scanlineCounter.toNat) := by
    rw [hrow, hscan, hk]
    simp
  have hin : t.scanlineCounter.toNat < s.rowHeight := by
    rw [hscan]
    exact Nat.succ_pos _
  exact .upper hk' hin (Nat.lt_of_lt_of_le hvisible hshape.visible_le_sync) hadjust
    (hon.trans (decide_eq_true hvisible).symm)

/-- Outside the adjust the scanline counter is in the row. -/
theorem scanline_le (h : s.AtScanline t k) (hadjust : t.verticalAdjustRemaining = 0) :
    t.scanlineCounter.toNat + 1 ≤ s.rowHeight := by
  cases h with
  | lower _ _ _ hscan => exact hscan
  | adjust _ hne => exact absurd hadjust hne
  | upper _ hscan => exact hscan

/-- The last scanline of a frame ends the row before the vertical-sync row. -/
theorem last (h : s.AtScanline t k) (hshape : s.FrameShape) (hk : k + 1 = s.linesTotal) :
    t.verticalAdjustRemaining = 0 ∧ t.scanlineCounter.toNat + 1 = s.rowHeight ∧
    t.verticalCounter.toNat + 1 = (s.reg 7).toNat := by
  have htotal := hshape.linesTotal_eq
  have hupper : s.rowHeight ≤ (s.reg 7).toNat * s.rowHeight :=
    Nat.le_mul_of_pos_left _ (Nat.lt_of_lt_of_le hshape.visible hshape.visible_le_sync)
  have hpos : 0 < s.rowHeight := Nat.succ_pos _
  cases h with
  | lower d hlast hk' hscan =>
    have hbefore := lower_lt hlast hscan
    omega
  | adjust hk' hne =>
    have hleft := adjust_pos hne
    omega
  | upper hk' hscan hrow hadjust =>
    have hfull : t.scanlineCounter.toNat + 1 = s.rowHeight := by
      by_contra hne
      have hroom : t.scanlineCounter.toNat + 1 < s.rowHeight := by omega
      have hbefore := (row_scanline_lt_iff hroom).2 hrow
      omega
    refine ⟨hadjust, hfull, Nat.eq_of_mul_eq_mul_right hpos ?_⟩
    rw [Nat.succ_mul]
    omega

/-- Rule R149: in the adjust. -/
theorem insideAdjust (h : s.AtScanline t k) (hshape : s.FrameShape) (hhalf : t.lineInFramePosition = true)
    (hadjust : t.verticalAdjustRemaining ≠ 0) : s.Reaches t t.advance (k + 1) := by
  have hnext := State.advance_insideAdjust hhalf hadjust
  cases h with
  | lower _ _ _ _ _ hzero => exact absurd hzero hadjust
  | upper _ _ _ hzero => exact absurd hzero hadjust
  | adjust hk _ hrow hoff =>
    by_cases hlast : t.verticalAdjustRemaining = 1
    · simp only [if_pos hlast] at hnext
      refine .of_withFlagsOf hnext ⟨.first hshape ?_ hrow rfl ?_ rfl, rfl, rfl, rfl, rfl, rfl⟩
      · rw [← hk, hlast]
        rfl
      · rw [hlast]
        rfl
    · have hcount : (t.verticalAdjustRemaining - 1).toNat + 1 = t.verticalAdjustRemaining.toNat := by bv_omega
      have hleft : t.verticalAdjustRemaining - 1 ≠ 0 := by bv_omega
      have hk' : k + 1 + (t.verticalAdjustRemaining - 1).toNat = s.linesBefore := by omega
      simp only [if_neg hlast] at hnext
      exact .of_withFlagsOf hnext ⟨.adjust hk' hleft hrow hoff, rfl, rfl, rfl, rfl, rfl⟩

variable (h : s.AtScanline t k) (hshape : s.FrameShape) (hregs : ∀ i, t.reg i = s.reg i)
  (hhalf : t.lineInFramePosition = true)
include h hshape hregs hhalf

/-- Rule R159: inside a row. -/
theorem insideRow (hadjust : t.verticalAdjustRemaining = 0) (hscan : t.scanlineCounter.toNat + 1 < s.rowHeight) :
    s.Reaches t t.advance (k + 1) := by
  have hend : t.rowEnd = false := Bool.eq_false_iff.2 fun hend => by
    rw [hshape.rowEnd_iff hregs] at hend
    omega
  have hcount := hshape.scanline_succ hscan
  have hin : (t.scanlineCounter + 1).toNat < s.rowHeight := hcount ▸ hscan
  refine .of_withFlagsOf (State.advance_insideRow hhalf hadjust hend) ⟨?_, rfl, rfl, rfl, rfl, rfl⟩
  cases h with
  | lower d hlast hk _ hrow _ hoff =>
    have hk' : k + 1 = d * s.rowHeight + (t.scanlineCounter + 1).toNat := by omega
    exact .lower d hlast hk' hin hrow hadjust hoff
  | adjust _ hne => exact absurd hadjust hne
  | upper hk _ hrow _ hon =>
    have hk' : k + 1 = s.linesBefore + (t.verticalCounter.toNat * s.rowHeight + (t.scanlineCounter + 1).toNat) := by
      omega
    exact .upper hk' hin hrow hadjust hon

/-- Rules R150 to R153: where a row ends that is not the frame's last scanline. -/
theorem endOfRow (hadjust : t.verticalAdjustRemaining = 0) (hscan : t.scanlineCounter.toNat + 1 = s.rowHeight)
    (hk : k + 1 < s.linesTotal) : s.Reaches t t.advance (k + 1) := by
  have hend := (hshape.rowEnd_iff hregs).2 hscan
  have hsync := hshape.sync_le_last
  cases h with
  | adjust _ hne => exact absurd hadjust hne
  | lower d hlast hk' _ hrow _ hoff =>
    have hnextRow : k + 1 = (d + 1) * s.rowHeight := by rw [Nat.succ_mul]; omega
    by_cases hwrap : t.verticalCounter.toNat = (s.reg 4).toNat
    · have hnext := State.advance_frameWrap hhalf hadjust hend (by rwa [hregs])
        (by rw [hregs]; exact hshape.sync_ne_zero)
      have hbefore : k + 1 + (s.reg 5).toNat = s.linesBefore := by
        have hd : d = (s.reg 4).toNat - (s.reg 7).toNat := by omega
        rw [hnextRow, hd, State.linesBefore]
      rw [hregs, hregs] at hnext
      by_cases hzero : s.reg 5 = 0
      · simp only [if_pos hzero] at hnext
        refine .of_withFlagsOf hnext ⟨.first hshape ?_ rfl rfl hzero rfl, rfl, rfl, rfl, rfl, rfl⟩
        rw [← hbefore, hzero]
        rfl
      · simp only [if_neg hzero] at hnext
        exact .of_withFlagsOf hnext
          ⟨.adjust hbefore hzero rfl (ite_eq_left_iff.2 fun _ => hoff), rfl, rfl, rfl, rfl, rfl⟩
    · obtain ⟨hcount, hmod⟩ := hshape.row_succ (r := t.verticalCounter) (by omega)
      have hnext := State.advance_innerRow hhalf hadjust hend (by rwa [hregs]) (by rw [hregs, hmod]; omega)
      have hrow' : (t.verticalCounter + 1).toNat = (s.reg 7).toNat + (d + 1) := by omega
      exact .of_withFlagsOf hnext ⟨.lower (d + 1) (by omega) hnextRow (Nat.succ_pos _) hrow' hadjust
        (ite_eq_left_iff.2 fun _ => hoff), rfl, rfl, rfl, rfl, rfl⟩
  | upper hk' _ hrow _ hon =>
    obtain ⟨hcount, hmod⟩ := hshape.row_succ (r := t.verticalCounter) (by omega)
    have hnextRow : k + 1 = s.linesBefore + (t.verticalCounter + 1).toNat * s.rowHeight := by
      rw [hcount, Nat.succ_mul]
      omega
    have hbefore : (t.verticalCounter + 1).toNat < (s.reg 7).toNat := by
      rw [hshape.linesTotal_eq, hnextRow] at hk
      exact Nat.lt_of_mul_lt_mul_right (Nat.lt_of_add_lt_add_left hk)
    have hnext := State.advance_innerRow hhalf hadjust hend (by rw [hregs]; omega) (by rw [hregs, hmod]; omega)
    have hon' : (if t.verticalCounter.toNat + 1 = (s.reg 6).toNat then false else t.displayActive) =
        decide ((t.verticalCounter + 1).toNat < (s.reg 6).toNat) := by
      rw [hcount]
      split_ifs with hdone
      · rw [hdone, decide_eq_false (Nat.lt_irrefl _)]
      · rw [hon, decide_eq_decide]
        omega
    rw [hmod, hregs] at hnext
    exact .of_withFlagsOf hnext ⟨.upper hnextRow (Nat.succ_pos _) hbefore hadjust hon', rfl, rfl, rfl, rfl, rfl⟩

/-- Rule R145: every active half of a frame but the last. -/
theorem active (hk : k + 1 < s.linesTotal) : s.Reaches t t.advance (k + 1) := by
  by_cases hadjust : t.verticalAdjustRemaining = 0
  · obtain hscan | hscan := Nat.lt_or_eq_of_le (h.scanline_le hadjust)
    · exact h.insideRow hshape hregs hhalf hadjust hscan
    · exact h.endOfRow hshape hregs hhalf hadjust hscan hk
  · exact h.insideAdjust hshape hhalf hadjust

end State.AtScanline

/-! ### The events of a frame -/

/-- The event is a line's (rule R142). -/
def Event.isLine : Event → Bool
  | .line _ _ => true
  | _ => false

/-- The event presents a frame (rule R157). -/
def Event.isBlit : Event → Bool
  | .blit _ _ _ _ => true
  | _ => false

theorem Event.isLine_of_isBlit {e : Event} (h : e.isBlit = true) : e.isLine = false := by
  cases e with
  | blit => rfl
  | _ => cases h

/-- The events `new` of the first `n` scanlines of a frame: no frame is presented, each visible scanline has its line,
and the first line has its number. -/
structure State.FrameLog (s : State) (n : Nat) (new : List Event) : Prop where
  blits : new.countP Event.isBlit = 0
  lines : new.countP Event.isLine = min (n - s.linesBefore) s.linesVisible
  first : s.linesBefore < n → s.linesBefore < 500 → ∃ px, new.find? Event.isLine = some (.line s.linesBefore px)

namespace State.FrameLog

variable {s : State} {n : Nat} {new more : List Event}

theorem nil (s : State) : s.FrameLog 0 [] where
  blits := rfl
  lines := by simp
  first h := absurd h (Nat.not_lt_zero _)

/-- Events that are neither a line nor the frame's end make no difference. -/
theorem append_other (h : s.FrameLog n new) (hlines : more.countP Event.isLine = 0)
    (hblits : more.countP Event.isBlit = 0) : s.FrameLog n (new ++ more) where
  blits := by rw [List.countP_append, h.blits, hblits]
  lines := by rw [List.countP_append, h.lines, hlines, Nat.add_zero]
  first hn hQ := by
    obtain ⟨px, hfirst⟩ := h.first hn hQ
    exact ⟨px, by rw [List.find?_append, hfirst, Option.some_or]⟩

/-- A scanline outside the display adds no line. -/
theorem succ_dark (h : s.FrameLog n new) (hshape : s.FrameShape)
    (hdark : ¬(s.linesBefore ≤ n ∧ n < s.linesBefore + s.linesVisible)) : s.FrameLog (n + 1) new := by
  have hpos := hshape.linesVisible_pos
  exact ⟨h.blits, h.lines.trans (by omega), fun hn => h.first (by omega)⟩

/-- A visible scanline adds its line. -/
theorem succ_visible (h : s.FrameLog n new) (hlow : s.linesBefore ≤ n) (hhigh : n < s.linesBefore + s.linesVisible)
    (px : List Ink) : s.FrameLog (n + 1) (new ++ [.line (n % 500) px]) where
  blits := by rw [List.countP_append, h.blits]; rfl
  lines := by
    rw [List.countP_append, h.lines]
    change _ + 1 = _
    omega
  first _ hQ := by
    rw [List.find?_append]
    by_cases hn : s.linesBefore < n
    · obtain ⟨px', hfirst⟩ := h.first hn hQ
      exact ⟨px', by rw [hfirst, Option.some_or]⟩
    · have hnone : new.find? Event.isLine = none := by
        rw [List.find?_eq_none, ← List.countP_eq_zero, h.lines]
        omega
      have hnumber : n % 500 = s.linesBefore := by omega
      exact ⟨px, by rw [hnone, Option.none_or, hnumber]; rfl⟩

end State.FrameLog

/-! ### The run of a frame -/

/-- `t` is a state of the frame that starts in `s`: `k` scanlines have ended, and the blank halves of `n` have run. -/
structure State.InFrame (s t : State) (k n : Nat) (half : Bool) : Prop where
  live : t.lifecycle = .live
  regs : ∀ i, t.reg i = s.reg i
  position : s.AtScanline t k
  half : t.lineInFramePosition = half
  line : t.displayLine = n % 500
  frames : t.frameCounter = s.frameCounter
  blinks : t.blinkCounter = s.blinkCounter
  events : ∃ new, t.events = s.events ++ new ∧ s.FrameLog n new

/-- `t` is the state a frame that started in `s` ends in (rule R165). -/
structure State.FrameEnded (s t : State) : Prop where
  half : t.lineInFramePosition = false
  adjust : t.verticalAdjustRemaining = 0
  scanline : t.scanlineCounter = 0
  active : t.displayActive = false
  line : t.displayLine = 0
  row : t.verticalCounter.toNat = (s.reg 7).toNat
  frames : t.frameCounter = s.frameCounter + 1
  blinks : t.blinkCounter = s.blinkCounter + 1
  events : ∃ new last, t.events = s.events ++ new ++ [last] ∧ s.FrameLog s.linesTotal new ∧ last.isBlit = true

/-- The fields of the status and cursor rules play no part in it. -/
theorem State.FrameEnded.of_withFlagsOf {s t u v : State} (h : u.withFlagsOf t = v) (hv : s.FrameEnded v) :
    s.FrameEnded u := by
  subst h
  exact { hv with }

namespace State.InFrame

variable {s t : State} {k n : Nat} {half : Bool}

/-- Taking a transaction from the queue moves nothing. -/
theorem accept (h : s.InFrame t k n half) (r : Request) (q : List Request) : s.InFrame (t.accept r q) k n half :=
  { h with position := h.position.congr rfl rfl rfl rfl }

/-- Rules R138 to R144: the blank half of a scanline. -/
theorem blank (h : s.InFrame t k k false) (hshape : s.FrameShape) : s.InFrame t.advance k (k + 1) true := by
  obtain ⟨new, hevents, hlog⟩ := h.events
  have hset := t.advance_setup
  have hlive := hset.lifecycle.trans h.live
  have hregs := fun i => (hset.reg i).trans (h.regs i)
  have hline : (t.displayLine + 1) % 500 = (k + 1) % 500 := by rw [h.line, Nat.mod_add_mod]
  rw [State.advance_blank h.half] at hlive hregs ⊢
  cases hactive : t.displayActive with
  | false =>
    have hdark := of_decide_eq_false (h.position.displayActive_eq.symm.trans hactive)
    have hnew := (hlog.succ_dark hshape hdark).append_other (more := [.schedule t.blankPeriodTicks]) rfl rfl
    rw [State.blankHalf_dark hactive] at hlive hregs ⊢
    refine ⟨hlive, hregs, h.position.congr rfl rfl rfl rfl, rfl, hline, h.frames, h.blinks, _, ?_, hnew⟩
    rw [hevents, List.append_assoc]
  | true =>
    obtain ⟨hlow, hhigh⟩ := of_decide_eq_true (h.position.displayActive_eq.symm.trans hactive)
    have hopened := (hlog.append_other (more := [.schedule t.blankPeriodTicks]) rfl rfl).append_other
      (more := if (t.displayLine : Int) < t.firstVisibleLine then [.waitForBuffer] else [])
      (by split_ifs <;> rfl) (by split_ifs <;> rfl)
    have hnew := hopened.succ_visible hlow hhigh (t.renderLine t.renderRow).1
    rw [State.blankHalf_visible hactive] at hlive hregs ⊢
    refine ⟨hlive, hregs, h.position.congr rfl rfl rfl rfl, rfl, hline, h.frames, h.blinks, _, ?_, hnew⟩
    rw [hevents, h.line]
    simp only [List.append_assoc]

/-- Rules R145 to R153 and R159: the active half of a scanline, but for the frame's last. -/
theorem active (h : s.InFrame t k (k + 1) true) (hshape : s.FrameShape) (hk : k + 1 < s.linesTotal) :
    s.InFrame t.advance (k + 1) (k + 1) false := by
  obtain ⟨new, hevents, hlog⟩ := h.events
  have hset := t.advance_setup
  have hhalf := h.position.active hshape h.regs h.half hk
  refine ⟨hset.lifecycle.trans h.live, fun i => (hset.reg i).trans (h.regs i), hhalf.position, hhalf.half,
    hhalf.line.trans h.line, hhalf.frames.trans h.frames, hhalf.blinks.trans h.blinks, _, ?_,
    hlog.append_other (more := [.schedule t.visiblePeriodTicks]) rfl rfl⟩
  rw [hhalf.events, hevents, List.append_assoc]

/-- Rules R154 to R158: the active half of the frame's last scanline. -/
theorem frameEnd (h : s.InFrame t k (k + 1) true) (hshape : s.FrameShape) (hk : k + 1 = s.linesTotal) :
    s.FrameEnded t.advance := by
  obtain ⟨new, hevents, hlog⟩ := h.events
  obtain ⟨hadjust, hscan, hrow⟩ := h.position.last hshape hk
  have hend := (hshape.rowEnd_iff h.regs).2 hscan
  have hlast := hshape.sync_le_last
  obtain ⟨hcount, hmod⟩ := hshape.row_succ (r := t.verticalCounter) (by omega)
  have hnext := State.advance_frameEnd h.half hadjust hend (by rw [h.regs]; omega) (by rw [h.regs, hmod]; exact hrow)
    (by rw [h.regs]; exact hshape.sync_ne_zero)
  rw [hk] at hlog
  refine .of_withFlagsOf hnext ⟨rfl, hadjust, rfl, rfl, rfl, hcount.trans hrow, congrArg (· + 1) h.frames,
    congrArg (· + 1) h.blinks, ?_⟩
  refine ⟨new ++ [.schedule t.visiblePeriodTicks] ++ t.resizeEvents,
    .blit t.firstVisibleLine t.frameHeight t.presentedWidth t.frameHeight, by simp only [hevents, List.append_assoc],
    (hlog.append_other rfl rfl).append_other ?_ ?_, rfl⟩ <;> (unfold State.resizeEvents; split_ifs <;> rfl)

end State.InFrame

/-- A step that takes a tick from the queue of a live device. -/
theorem step_tickRequest {s : State} {rest : List Request} (hlive : s.lifecycle = .live)
    (hpending : s.pending = tickRequest :: rest) : step s = .next (s.accept tickRequest rest).advance :=
  (step_runs hpending (decode_tickRequest _)).trans (exec_tick_live hlive)

/-- The two ticks of a scanline: `u` is the state in which the second runs. -/
theorem State.InFrame.run_scanline {s t : State} {k : Nat} (h : s.InFrame t k k false) (hshape : s.FrameShape)
    {rest : List Request} (hpending : t.pending = tickRequest :: tickRequest :: rest) :
    ∃ u, s.InFrame u k (k + 1) true ∧ u.advance.pending = rest ∧
      ∀ n, Host.Core.run core (n + 2) t = Host.Core.run core n u.advance := by
  have hblank := (h.accept tickRequest (tickRequest :: rest)).blank hshape
  have hfirst := step_tickRequest h.live hpending
  have hsecond := step_tickRequest hblank.live (State.advance_setup _).pending
  exact ⟨_, hblank.accept tickRequest rest, (State.advance_setup _).pending,
    fun n => (run_succ hfirst _).trans (run_succ hsecond n)⟩

/-- From the start of a scanline to the frame's end, by induction on the scanlines after this one. -/
theorem State.InFrame.run {s : State} (hshape : s.FrameShape) (rest : List Request) {m : Nat} :
    ∀ {t : State} {k : Nat}, s.InFrame t k k false → k + m + 1 = s.linesTotal →
      t.pending = List.replicate (2 * (m + 1)) tickRequest ++ rest →
      ∃ u, Host.Core.run core (2 * (m + 1)) t = .next u ∧ s.FrameEnded u := by
  induction m with
  | zero =>
    intro t k h hk hpending
    obtain ⟨u, hu, -, hrun⟩ := h.run_scanline hshape hpending
    exact ⟨u.advance, hrun 0, hu.frameEnd hshape hk⟩
  | succ m ih =>
    intro t k h hk hpending
    obtain ⟨u, hu, hrest, hrun⟩ := h.run_scanline hshape hpending
    obtain ⟨v, hrun', hv⟩ := ih (hu.active hshape (by omega)) (by omega) hrest
    exact ⟨v, (hrun _).trans hrun', hv⟩

end Sys2Proof.Machine

namespace Sys2Proof.Proofs

open Sys2Proof.Machine

/-- Settles O12: the blank is not negative, so both periods follow from the new scale. -/
theorem speedRescalesBothPeriods : Obligations.SpeedRescalesBothPeriods := by
  intro s hlive hscale hblank
  rw [exec_speed_live hlive hscale, State.changeSpeed_of_le hblank]

/-- Settles O13: the draw is the blank period, which the equation leaves out. -/
theorem speedWithNegativeBlankDrawsThePeriod : Obligations.SpeedWithNegativeBlankDrawsThePeriod := by
  intro s hlive hscale hblank
  refine ⟨s.changeSpeed, exec_speed_live hlive hscale, ?_⟩
  rw [State.changeSpeed_of_lt hblank]
  exact ⟨rfl, rfl⟩

/-- Settles O37, from the whole next state of a dark blank half. -/
theorem blankHalfOutsideTheDisplay : Obligations.BlankHalfOutsideTheDisplay := by
  intro s hlive hhalf hactive
  rw [exec_tick_live hlive, State.advance_blank hhalf, State.blankHalf_dark hactive]

/-- Settles O38: the strategy and the render row are read off the register bits. -/
theorem blankHalfRendersAndEmitsItsLine : Obligations.BlankHalfRendersAndEmitsItsLine := by
  intro s hlive hhalf hactive row pixels
  rw [exec_tick_live hlive, State.advance_blank hhalf, State.blankHalf_visible hactive, State.renderLine_pixels,
    State.renderRow_eq]

/-- Settles O42, from the whole next state inside a row. -/
theorem nextScanlineReloadsTheRowStart : Obligations.NextScanlineReloadsTheRowStart := by
  intro s hlive hhalf hadjust hrow hdoubled
  have hend : s.rowEnd = false := Bool.eq_false_iff.2 fun h => (s.rowEnd_iff.1 h).elim hrow hdoubled
  have hnext := State.advance_insideRow hhalf hadjust hend
  have hscanline : s.advance.scanlineCounter = s.scanlineCounter + 1 := congrArg State.scanlineCounter hnext
  refine ⟨s.advance, exec_tick_live hlive, ?_, congrArg (State.withScanline · s.scanlineCounter) hnext⟩
  rw [hscanline]
  exact BitVec.toNat_add _ _

/-- Settles O43, from the whole next state inside the adjust. -/
theorem adjustScanlineCountsDown : Obligations.AdjustScanlineCountsDown := by
  intro s hlive hhalf hadjust start
  refine ⟨s.advance, exec_tick_live hlive, (State.advance_insideAdjust hhalf hadjust).trans ?_⟩
  rw [State.startAddress_eq]

/-- Settles O44, from the whole next state after an inner row. -/
theorem endOfRowStartsTheNextRow : Obligations.EndOfRowStartsTheNextRow := by
  intro s hlive hhalf hadjust hrow hwrap hsync
  have hnext := State.advance_innerRow hhalf hadjust (s.rowEnd_iff.2 hrow) hwrap hsync
  have hcounter : s.advance.verticalCounter = s.verticalCounter + 1 := congrArg State.verticalCounter hnext
  refine ⟨s.advance, exec_tick_live hlive, ?_, congrArg (State.withRow · s.verticalCounter) hnext⟩
  rw [hcounter, row_succ_mod]

/-- Settles O45, from the whole next state after the frame's last row. -/
theorem frameWrapRestartsTheRows : Obligations.FrameWrapRestartsTheRows := by
  intro s hlive hhalf hadjust hrow hwrap hsync start
  refine ⟨s.advance, exec_tick_live hlive,
    (State.advance_frameWrap hhalf hadjust (s.rowEnd_iff.2 hrow) hwrap hsync).trans ?_⟩
  rw [State.startAddress_eq, State.cursorGate_eq]

/-- Settles O48, counter by counter. -/
theorem countersWrapAndNeverClamp : Obligations.CountersWrapAndNeverClamp := by
  intro s t h
  obtain ⟨-, rfl⟩ := State.whenLive_next h
  obtain ⟨hscan, hrow, hline⟩ := s.advance_counters
  refine ⟨?scanline, ?row, hline, ?range⟩
  case scanline =>
    obtain h | h | h := hscan <;> rw [h]
    · exact .inl rfl
    · exact .inr (.inl (BitVec.toNat_add _ _))
    · exact .inr (.inr rfl)
  case row =>
    obtain h | h | h := hrow <;> rw [h]
    · exact .inl rfl
    · exact .inr (.inl (BitVec.toNat_add _ _))
    · exact .inr (.inr rfl)
  case range => omega

/-- Settles O40: the scanline's end leaves the status and arms the countdown. -/
theorem activeHalfUpdatesTheStatusFlags : Obligations.ActiveHalfUpdatesTheStatusFlags := by
  intro s hlive hhalf rowEnds nextRow
  refine ⟨s.advance, exec_tick_live hlive, State.advance_status hhalf, (State.advance_countdown hhalf).trans ?_⟩
  simp only [s.rowEnd_iff]
  rfl

/-- Settles O41: the scanline's end leaves the window, and the scanline compared for its opening is the next one. -/
theorem activeHalfMovesTheCursorWindow : Obligations.ActiveHalfMovesTheCursorWindow := by
  intro s hlive hhalf
  obtain ⟨hon, hoff⟩ := State.advance_cursorWindow hhalf
  refine ⟨s.advance, exec_tick_live hlive, ?_⟩
  simp only [hon, hoff, Bool.or_eq_true, Bool.and_eq_true, Bool.not_eq_true', ← Bool.not_eq_true, State.cursorEndRow,
    State.cursorStartRow, State.atCursorRow_iff, s.advance_setup.reg]
  exact ⟨or_comm, trivial⟩

/-- Settles O36: the setup is what no tick changes. -/
theorem tickSchedulesItsPeriodAndTogglesTheHalf : Obligations.TickSchedulesItsPeriodAndTogglesTheHalf := by
  intro s x hlive
  have hset := s.advance_setup
  obtain ⟨more, hevents, htime, hhalf⟩ := s.advance_opening
  exact ⟨decode_tickWord _ _, s.advance, more, exec_tick_live hlive, ⟨hevents, htime⟩, hhalf, hset.crtc,
    hset.crtcIndex, hset.mode, hset.modeExt, hset.palette, hset.vram, hset.claimedWindow, hset.visiblePeriodTicks,
    hset.blankPeriodTicks, hset.tickScale, hset.reply, hset.drawCount, hset.palExtCursor, hset.palExtEnable,
    hset.lifecycle, hset.params, hset.pending, hset.hostTickScale, hset.hostWriteBypass⟩

/-- Settles O47: the row after is 0 in both cases, and with it register 7 is reached. -/
theorem vsyncRowZeroEndsNoFrame : Obligations.VsyncRowZeroEndsNoFrame := by
  intro s hlive hhalf hadjust hrow hlast hzero wraps start
  replace hrow := s.rowEnd_iff.2 hrow
  by_cases hwrap : wraps
  · have hafter := State.rowAfter_last hwrap
    have harmed := State.advance_armed hhalf hadjust hrow (by rw [hafter, hzero]; rfl)
    refine ⟨s.advance, exec_tick_live hlive, harmed,
      (State.advance_syncRowZero_wrap hhalf hadjust hrow hwrap hzero).trans ?_⟩
    rw [State.startAddress_eq, State.cursorGate_eq]
    simp only [hwrap, true_and, if_true, not_true, if_false]
    rfl
  · have htop := hlast.resolve_left hwrap
    have hafter : s.rowAfter = 0 := by rw [State.rowAfter_inner hwrap, htop]
    have harmed := State.advance_armed hhalf hadjust hrow (by rw [hafter, hzero]; rfl)
    have hcounter : s.verticalCounter + 1 = 0 :=
      BitVec.eq_of_toNat_eq (by rw [← row_succ_mod, htop]; rfl)
    refine ⟨s.advance, exec_tick_live hlive, harmed,
      (State.advance_syncRowZero_inner hhalf hadjust hrow hwrap htop hzero).trans ?_⟩
    simp only [hwrap, hcounter, hadjust, false_and, if_true, not_false_iff, if_false]

/-- Settles O46: the size presented is the clamped one where the size changes, and the screen's where it does not. -/
theorem vsyncRowEndsTheFrame : Obligations.VsyncRowEndsTheFrame := by
  intro s hlive hhalf hadjust hrow hwrap hsync hzero w h resized newW newH
  replace hrow := s.rowEnd_iff.2 hrow
  have hreached : s.rowAfter = (s.reg 7).toNat := (State.rowAfter_inner hwrap).trans hsync
  have harmed := State.advance_armed hhalf hadjust hrow hreached
  have hend := State.advance_frameEnd hhalf hadjust hrow hwrap hsync hzero
  have hcounter : s.advance.verticalCounter = s.verticalCounter + 1 := congrArg State.verticalCounter hend
  have hw : s.frameWidth = w := s.frameWidth_eq
  refine ⟨s.advance, exec_tick_live hlive, ?row, harmed, fun hresized => ?resized, fun hkept => ?kept,
    congrArg (fun t => { t with
      verticalCounter := s.verticalCounter, screenW := s.screenW, screenH := s.screenH, events := s.events }) hend⟩
  case row => rw [hcounter, row_succ_mod]
  case resized =>
    obtain ⟨hwidth, hheight, hevents⟩ := s.presented_of_resizes (by rwa [hw])
    rw [hwidth, hheight, hevents, hw, List.append_assoc, List.append_assoc] at hend
    exact ⟨congrArg State.screenW hend, congrArg State.screenH hend, congrArg State.events hend⟩
  case kept =>
    obtain ⟨hwidth, hheight, hevents⟩ := s.presented_of_same (by rwa [hw])
    rw [hwidth, hheight, hevents, List.append_nil, List.append_assoc] at hend
    exact ⟨(congrArg State.screenW hend :), (congrArg State.screenH hend :), congrArg State.events hend⟩

/-- Settles O53: the start of a frame is its scanline 0, from which the run goes to the frame's end. -/
theorem framesRepeatWithTheirShape : Obligations.FramesRepeatWithTheirShape := by
  intro s rest scanlines firstLine isLine isBlit hlive hhalf hadjust hscan hactive hline hrow hsingle hscanlines
    hvisible hvisible_le hsync_le hlast hpending
  have hshape : s.FrameShape := ⟨hsingle, hscanlines, hvisible, hvisible_le, hsync_le, hlast⟩
  have hisLine : isLine = Event.isLine := by funext e; cases e <;> rfl
  have hisBlit : isBlit = Event.isBlit := by funext e; cases e <;> rfl
  have hposition : s.AtScanline s 0 :=
    .lower 0 hsync_le (by simp [hscan]) (by rw [hscan]; exact Nat.succ_pos _) hrow hadjust hactive
  have hstart : s.InFrame s 0 0 false :=
    ⟨hlive, fun _ => rfl, hposition, hhalf, hline, rfl, rfl, [], (List.append_nil _).symm, .nil s⟩
  have htotal := hshape.linesTotal_eq
  have hlines : s.linesVisible ≤ (s.reg 7).toNat * s.rowHeight := Nat.mul_le_mul_right _ hvisible_le
  have hpos := hshape.linesVisible_pos
  obtain ⟨m, hm⟩ : ∃ m, s.linesTotal = m + 1 := ⟨s.linesTotal - 1, by omega⟩
  have htotal' : scanlines = m + 1 := hm
  rw [htotal'] at hpending ⊢
  obtain ⟨t, hrun, hend⟩ := State.InFrame.run hshape rest hstart (by omega) hpending
  obtain ⟨new, last, hevents, hlog, hblit⟩ := hend.events
  have hother : last.isLine = false := Event.isLine_of_isBlit hblit
  refine ⟨t, new ++ [last], hrun, hend.half, hend.adjust, hend.scanline, hend.active, hend.line, hend.row, hend.frames,
    hend.blinks, by rw [hevents, List.append_assoc], ?blits, ?last, ?lines, fun hfirst => ?first⟩
  case blits => rw [hisBlit, List.countP_append, hlog.blits, List.countP_singleton, if_pos hblit]
  case last => rw [hisBlit, List.getLast?_concat, Option.map_some, hblit]
  case lines =>
    rw [hisLine, List.countP_append, hlog.lines, List.countP_singleton, hother, htotal, Nat.add_sub_cancel_left]
    exact Nat.min_eq_right hlines
  case first =>
    obtain ⟨px, hpx⟩ := hlog.first (by omega) hfirst
    exact ⟨px, by rw [hisLine, List.find?_append, hpx]; rfl⟩

end Sys2Proof.Proofs

/-! The statements of spec/43_render_text.md: the lengths of the lines (O54), the pixels of the ROM-font and 4K-font
lines (O56) and of the 48K-font line (O57), and the disabled video (O59). -/

namespace Sys2Proof.Machine

variable (s : State)

/-! ### What the line loop reads for a cell (rules R181 and R182) -/

theorem State.cellChar_eq (ma : CellAddr) : s.cellChar ma =
    if s.mode.getLsbD 3 then Memory.read s.vram ((2 * ma.toNat) % 16384) else 0 := by
  rw [State.cellChar, State.memRead, charOffset_toNat]
  rfl

theorem State.cellAttr_eq (ma : CellAddr) : s.cellAttr ma =
    if s.mode.getLsbD 3 then Memory.read s.vram ((2 * ma.toNat + 1) % 16384) else 0 := by
  rw [State.cellAttr, State.memRead, attrOffset_toNat]
  rfl

theorem State.drawCursor_iff (ma : CellAddr) : s.drawCursor ma = true ↔
    ma.toNat = ((s.reg 14).toNat * 256 + (s.reg 15).toNat) % 16384 ∧
      s.cursorEnabledWindow = true ∧ s.cursorVisible = true := by
  rw [State.drawCursor, Bool.and_eq_true, Bool.and_eq_true, decide_eq_true_iff, and_assoc, s.cursorAddress_eq,
    ← BitVec.toNat_inj, BitVec.toNat_ofNat]

/-- With the video disabled a cell is read as character 0 with attribute 0 (rule R182). -/
theorem State.textCell_of_disabled (h : s.mode.getLsbD 3 = false) (cell : Byte → Byte → Row → Cell) (row : Row)
    (ma : CellAddr) : s.textCell cell row ma = s.overlayCursor ma (cell 0 0 row) := by
  rw [State.textCell, s.cellChar_eq, s.cellAttr_eq, if_neg (Bool.eq_false_iff.1 h), if_neg (Bool.eq_false_iff.1 h)]

/-- Rule R173, with the address of rule R176. -/
theorem State.ram4KGlyph_eq (chr : Byte) (row : Row) : s.ram4KGlyph chr row =
    Memory.read s.vram ((s.params.ramFontBase.toNat + 16 * chr.toNat + row.toNat) % 65536) := by
  rw [State.ram4KGlyph, State.memRead, s.ram4KAddr_toNat]

/-- Rules R174 and R175, with the address of rule R176. -/
theorem State.ram48KGlyph_eq (chr attr : Byte) (row : Row) : s.ram48KGlyph chr attr row =
    Memory.read s.vram ((s.params.ramFontBase.toNat + 16 * chr.toNat + row.toNat +
      4096 * (if 12 ≤ attr.toNat % 16 then attr.toNat % 16 - 8 else attr.toNat % 16)) % 65536) := by
  rw [State.ram48KGlyph, State.memRead, s.ram48KAddr_toNat, fontSelect_toNat]
  congr 2
  omega

/-! ### The pixels of a text line (rules R181, R197 and R198) -/

section
variable {s}

/-- Pixel `i` of cell `k` of a text line: the cell's foreground under the cursor, else the strategy's own pixel. -/
theorem State.textLine_pixel {cell : Byte → Byte → Row → Cell} (hw : ∀ c a r, (cell c a r).1.length = s.cellWidth)
    {row : Row} {k i : Nat} (hk : k < (s.reg 1).toNat) (hi : i < s.cellWidth) {ma : CellAddr}
    (hma : ma = s.memoryAddress + BitVec.ofNat 14 k) {px : Ink}
    (hpx : (cell (s.cellChar ma) (s.cellAttr ma) row).1[i]? = some px) :
    (s.textLine cell row).1[k * s.cellWidth + i]? =
      some (if s.drawCursor ma then (cell (s.cellChar ma) (s.cellAttr ma) row).2 else px) := by
  subst hma
  rw [State.textLine, lineCells_pixel _ (s.textCell_length hw row) s.columns _ hk hi, State.textCell,
    State.overlayCursor]
  split_ifs
  · exact s.solidCell_pixel _ hi
  · exact hpx

/-- A pixel under the cursor is the cell's foreground (rule R197). -/
theorem State.mem_overlayCursor {ma : CellAddr} {cell : Cell} {px : Ink} (h : px ∈ s.overlayCursor ma cell) :
    px = cell.2 ∨ px ∈ cell.1 := by
  unfold State.overlayCursor at h
  split_ifs at h
  · exact .inl (List.eq_of_mem_replicate h)
  · exact .inr h

theorem State.mem_emitPixels {val : Pattern} {fg bg px : Ink} (h : px ∈ s.emitPixels val fg bg) :
    px = fg ∨ px = bg := by
  obtain ⟨i, -, rfl⟩ := List.mem_map.1 h
  exact ite_eq_or_eq _ fg bg

end

/-! ### The lit columns of a glyph (rules R183, R187 and R196) -/

/-- Rule R187: the characters whose ninth column repeats the eighth. -/
abbrev State.RepeatsLast (chr : Byte) : Prop :=
  s.params.elgLo.toNat ≤ chr.toNat ∧ chr.toNat ≤ s.params.elgHi.toNat

/-- Rule R104: 8 columns, or 9. -/
theorem State.cellWidth_le : s.cellWidth ≤ 9 := by
  unfold State.cellWidth
  split <;> omega

/-- Rule R104: the 90-column mode has no ninth column. -/
theorem State.col90_of_ninth (h : 8 < s.cellWidth) : s.col90 = false := by
  by_contra hcol
  have hwidth : s.cellWidth = 8 := if_pos (Bool.eq_true_of_not_eq_false hcol)
  omega

/-- Rule R187: where there is a ninth column, the character alone decides whether it repeats the eighth. -/
theorem State.elg_iff (h : 8 < s.cellWidth) (chr : Byte) : s.elg chr = true ↔ s.RepeatsLast chr := by
  rw [State.elg, s.col90_of_ninth h, Bool.not_false, Bool.true_and, Bool.and_eq_true, decide_eq_true_iff,
    decide_eq_true_iff]

/-- Rule R187: pattern bit 0 takes bit 1. -/
theorem duplicateLast_ninth (elg : Bool) (val : Pattern) :
    (duplicateLast elg val).getLsbD 0 = (val.getLsbD 0 || (elg && val.getLsbD 1)) := by
  cases elg <;> simp [duplicateLast]

/-- The row pattern of a glyph that is not bold (rules R183 and R187). -/
def State.glyphColumns (chr glyph : Byte) : Pattern := duplicateLast (s.elg chr) (glyphPattern glyph)

/-- The first 8 columns are the glyph's own. -/
theorem State.glyphColumns_of_lt (chr glyph : Byte) {i : Nat} (h : i < 8) :
    (s.glyphColumns chr glyph).getLsbD (8 - i) = glyph.getLsbD (7 - i) := by
  have hbit : ¬8 - i = 0 := by omega
  unfold State.glyphColumns
  cases s.elg chr
  · simp [duplicateLast, glyphPattern_bit, h]
  · simp [duplicateLast, glyphPattern_bit, h, hbit]

/-- The ninth column is clear, or repeats the eighth. -/
theorem State.glyphColumns_ninth (h : 8 < s.cellWidth) (chr glyph : Byte) :
    (s.glyphColumns chr glyph).getLsbD 0 = true ↔ s.RepeatsLast chr ∧ glyph.getLsbD 0 = true := by
  have hninth : (glyphPattern glyph).getLsbD 0 = false := glyphPattern_bit glyph 8
  have heighth : (glyphPattern glyph).getLsbD 1 = glyph.getLsbD 0 := glyphPattern_bit glyph 7
  rw [← s.elg_iff h, State.glyphColumns, duplicateLast_ninth, hninth, heighth, Bool.false_or, Bool.and_eq_true]

/-- Rule R196: bold ORs each pattern bit with the one above it. -/
theorem boldPattern_bit (bold : Bool) (val : Pattern) (j : Nat) :
    (boldPattern bold val).getLsbD j = (val.getLsbD j || (bold && val.getLsbD (1 + j))) := by
  cases bold <;> simp [boldPattern]

/-! ### The cells of the ROM and 4K strategies (rules R184 to R188) -/

theorem mdaBackground_eq (attr : Byte) : mdaBackground attr =
    (if decide (attr &&& 0x77 = 0x70) then 7 else 0) + (if attr.getLsbD 7 then 8 else 0) := by
  revert attr
  decide

theorem mdaForeground_eq (attr : Byte) : mdaForeground attr =
    (if decide (attr &&& 0x77 = 0x70) then 0 else 7) + (if attr.getLsbD 3 then 8 else 0) := by
  revert attr
  decide

/-- Rule R185: attribute 0 is blank, so that both inks are 0. -/
theorem State.mdaInks_blank : mdaInks (s.mdaAttr 0) = (0, 0) := by
  unfold State.mdaAttr
  split <;> decide

theorem State.mdaCell_foreground (chr attr glyph : Byte) (row : Row) :
    (s.mdaCell chr attr glyph row).2 = (mdaInks (s.mdaAttr attr)).1 := rfl

/-- Rule R188: pixel `i` of a cell, blink over underline over glyph. -/
theorem State.mdaCell_pixel (chr attr glyph : Byte) (row : Row) {i : Nat} (hi : i < s.cellWidth) :
    (s.mdaCell chr attr glyph row).1[i]? =
      let inks := mdaInks (s.mdaAttr attr)
      some (if s.mdaBlink attr then inks.2
        else if s.mdaAttr attr &&& 0x07 = 1 ∧ row.toNat = s.params.underlineRow then inks.1
        else if i < 8 then (if glyph.getLsbD (7 - i) then inks.1 else inks.2)
        else if s.RepeatsLast chr ∧ glyph.getLsbD 0 then inks.1 else inks.2) := by
  have hwidth := s.cellWidth_le
  dsimp only [State.mdaCell]
  rw [s.emitPixels_pixel _ _ _ hi, State.mdaPattern, ← State.glyphColumns]
  congr 1
  by_cases hblink : s.mdaBlink attr
  · have hclear : ¬(0 : Pattern).getLsbD (8 - i) = true := by simp
    rw [if_pos hblink, if_pos hblink, if_neg hclear]
  rw [if_neg hblink, if_neg hblink]
  by_cases hline : s.mdaAttr attr &&& 0x07 = 1 ∧ row.toNat = s.params.underlineRow
  · have hlit : (0x1FF : Pattern).getLsbD (8 - i) = true := by
      have hones : ∀ j : Fin 9, (0x1FF : Pattern).getLsbD j = true := by decide
      exact hones ⟨8 - i, by omega⟩
    rw [if_pos hline, if_pos hline, if_pos hlit]
  rw [if_neg hline, if_neg hline]
  by_cases h8 : i < 8
  · rw [if_pos h8, s.glyphColumns_of_lt _ _ h8]
  · obtain rfl : i = 8 := by omega
    rw [if_neg h8]
    exact if_congr (s.glyphColumns_ninth hi _ _) rfl rfl

/-! ### The cells of the 48K strategy (rules R193 to R196) -/

/-- Rule R106: the row in a line register's low nibble. -/
theorem row_eq_lowNibble (x : Byte) (row : Row) :
    (row == (x.extractLsb' 0 4).setWidth 5) = true ↔ row.toNat = x.toNat % 16 := by
  have hlow : ((x.extractLsb' 0 4).setWidth 5).toNat = x.toNat % 16 := by
    revert x
    decide
  rw [beq_iff_eq, ← BitVec.toNat_inj, hlow]

/-- Rule R106: the ink in a line register's high nibble. -/
theorem highNibble_eq (x : Byte) : x.extractLsb' 4 4 = BitVec.ofNat 4 (x.toNat / 16) := by
  revert x
  decide

theorem State.overlineRow_iff (attr : Byte) (row : Row) : s.overlineRow attr row = true ↔
    attr.getLsbD 5 = true ∧ row.toNat = (s.reg 22).toNat % 16 := by
  rw [State.overlineRow, Bool.and_eq_true, State.olRow, row_eq_lowNibble]

theorem State.underlineRow48K_iff (attr : Byte) (row : Row) : s.underlineRow48K attr row = true ↔
    attr.getLsbD 4 = true ∧ row.toNat = (s.reg 21).toNat % 16 := by
  rw [State.underlineRow48K, Bool.and_eq_true, State.ulRow, row_eq_lowNibble]

theorem State.bold48K_iff (attr : Byte) :
    s.bold48K attr = true ↔ s.mode.getLsbD 5 = false ∧ attr.getLsbD 7 = true := by
  rw [State.bold48K, Bool.and_eq_true, Bool.not_eq_true']
  rfl

theorem inks48K_foreground (attr : Byte) : (inks48K attr).1 = if attr.getLsbD 6 then 0 else 7 :=
  apply_ite Prod.fst _ _ _

theorem inks48K_background (attr : Byte) : (inks48K attr).2 = if attr.getLsbD 6 then 7 else 0 :=
  apply_ite Prod.snd _ _ _

/-- Rules R183, R187 and R196: the lit columns of a glyph. -/
theorem State.boldColumns_iff (bold : Bool) (chr glyph : Byte) {i : Nat} (hi : i < s.cellWidth) :
    (boldPattern bold (s.glyphColumns chr glyph)).getLsbD (8 - i) = true ↔
      (i < 8 ∧ glyph.getLsbD (7 - i) = true) ∨ (i = 8 ∧ s.RepeatsLast chr ∧ glyph.getLsbD 0 = true) ∨
      (bold = true ∧ 1 ≤ i ∧ glyph.getLsbD (8 - i) = true) := by
  have hwidth := s.cellWidth_le
  rw [boldPattern_bit, Bool.or_eq_true, Bool.and_eq_true, ← or_assoc]
  refine or_congr ?glyph (and_congr_right fun _ => ?neighbour)
  case glyph =>
    by_cases h8 : i < 8
    · have hne : i ≠ 8 := by omega
      rw [s.glyphColumns_of_lt _ _ h8]
      simp [h8, hne]
    · obtain rfl : i = 8 := by omega
      simpa using s.glyphColumns_ninth hi chr glyph
  case neighbour =>
    cases i with
    | zero => simp
    | succ i =>
      have hbit : 1 + (8 - (i + 1)) = 8 - i := by omega
      have hglyph : 8 - (i + 1) = 7 - i := by omega
      rw [hbit, hglyph, s.glyphColumns_of_lt _ _ (by omega)]
      simp

/-- Rule R196: pixel `i` of a cell, blink over overline over underline over glyph. -/
theorem State.cell48KOf_pixel (chr attr glyph : Byte) (row : Row) {i : Nat} (hi : i < s.cellWidth) :
    (s.cell48KOf chr attr glyph row).1[i]? =
      let inks := inks48K attr
      some (if s.blink48K attr then inks.2
        else if s.overlineRow attr row then s.olInk ^^^ inks.2
        else if s.underlineRow48K attr row then s.ulInk ^^^ inks.2
        else if (boldPattern (s.bold48K attr) (s.glyphColumns chr glyph)).getLsbD (8 - i) then inks.1 else inks.2) := by
  dsimp only [State.cell48KOf]
  split_ifs with hblink hover hunder hlit
  · exact s.solidCell_pixel _ hi
  · exact s.solidCell_pixel _ hi
  · exact s.solidCell_pixel _ hi
  · exact (s.emitPixels_pixel _ _ _ hi).trans (congrArg some (if_pos hlit))
  · exact (s.emitPixels_pixel _ _ _ hi).trans (congrArg some (if_neg hlit))

end Sys2Proof.Machine

namespace Sys2Proof.Proofs

open Sys2Proof.Machine

/-- Settles O54: every cell has its width, and every cell moves the address on by 1. -/
theorem linesHaveTheirLengths : Obligations.LinesHaveTheirLengths := by
  intro s row columns width after
  have text {cell : Byte → Byte → Row → Cell} (hw : ∀ c a r, (cell c a r).1.length = s.cellWidth) :
      (s.textLine cell row).1.length = columns * width ∧ (s.textLine cell row).2 = after :=
    ⟨lineCells_length _ (s.textCell_length hw row) _ _, lineCells_address _ _ _⟩
  exact ⟨text fun c a r => s.mdaCell_length c a _ r, text fun c a r => s.mdaCell_length c a _ r,
    text fun c a r => s.cell48KOf_length c a _ r,
    lineCells_length _ (fun _ => s.cellPixels_length _) _ _, lineCells_address _ _ _⟩

/-- Settles O56: both strategies draw the same cell, each from its own glyph, under the cursor. -/
theorem mdaTextPixels : Obligations.MdaTextPixels := by
  intro s row k i width ma video chr attr blinks a inverse bg fg cursor underlined repeats pixel hk hi
  have hchr : s.cellChar ma = chr := s.cellChar_eq ma
  have hattr : s.cellAttr ma = attr := s.cellAttr_eq ma
  have hbg : (mdaInks (s.mdaAttr attr)).2 = bg := mdaBackground_eq a
  have hfg : (mdaInks (s.mdaAttr attr)).1 = fg :=
    if_congr Iff.rfl (mdaBackground_eq a) (mdaForeground_eq a)
  have line (glyph : Byte → Row → Byte) :
      (s.textLine (fun c a r => s.mdaCell c a (glyph c r) r) row).1[k * width + i]? = some (pixel (glyph chr row)) := by
    have hpixel := s.textLine_pixel (fun c a r => s.mdaCell_length c a (glyph c r) r) hk hi rfl
      (s.mdaCell_pixel (s.cellChar ma) (s.cellAttr ma) _ row hi)
    rw [hchr, hattr, hbg, hfg] at hpixel
    refine hpixel.trans (congrArg some ?_)
    exact if_congr (s.drawCursor_iff ma) hfg rfl
  exact ⟨line romGlyph, s.ram4KGlyph_eq chr row ▸ line s.ram4KGlyph⟩

/-- Settles O57: the cell's own pixel in its order of priority, under the cursor. -/
theorem extendedTextPixels : Obligations.ExtendedTextPixels := by
  intro s row k i width ma video chr attr f glyph blinks bold fg bg cursor repeats hk hi
  have hchr : s.cellChar ma = chr := s.cellChar_eq ma
  have hattr : s.cellAttr ma = attr := s.cellAttr_eq ma
  have hfg : (inks48K attr).1 = fg := inks48K_foreground attr
  have hbg : (inks48K attr).2 = bg := inks48K_background attr
  have hglyph : s.ram48KGlyph chr attr row = glyph := s.ram48KGlyph_eq chr attr row
  have hpixel := s.textLine_pixel (fun c a r => s.cell48KOf_length c a (s.ram48KGlyph c a r) r) hk hi rfl
    (s.cell48KOf_pixel (s.cellChar ma) (s.cellAttr ma) _ row hi)
  rw [hchr, hattr, hglyph, hfg, hbg] at hpixel
  refine hpixel.trans (congrArg some ?_)
  refine if_congr (s.drawCursor_iff ma) hfg (if_congr Iff.rfl rfl ?_)
  refine if_congr (s.overlineRow_iff attr row) (congrArg (· ^^^ bg) (highNibble_eq _)) ?_
  refine if_congr (s.underlineRow48K_iff attr row) (congrArg (· ^^^ bg) (highNibble_eq _)) ?_
  refine if_congr ?_ rfl rfl
  rw [s.boldColumns_iff _ _ _ hi, s.bold48K_iff, and_assoc]

/-- Settles O59: the blank attribute has ink 0 twice. -/
theorem disabledVideoDrawsBlankText : Obligations.DisabledVideoDrawsBlankText := by
  intro s row hvideo
  have hinks : mdaInks (s.mdaAttr 0) = (0, 0) := s.mdaInks_blank
  have line (glyph : Byte → Row → Byte) :
      ∀ px ∈ (s.textLine (fun c a r => s.mdaCell c a (glyph c r) r) row).1, px = 0 := by
    intro px hpx
    obtain ⟨ma, hcell⟩ := mem_lineCells _ _ _ hpx
    rw [s.textCell_of_disabled hvideo] at hcell
    rcases State.mem_overlayCursor hcell with hcursor | hcell
    · rw [hcursor, State.mdaCell_foreground, hinks]
    · rcases State.mem_emitPixels hcell with h | h <;> rw [h, hinks]
  exact ⟨line romGlyph, line s.ram4KGlyph⟩

end Sys2Proof.Proofs

/-! The statements of spec/45_vram_window.md: the window write (O26, O27), the window read (O28) and the round trip
through the ticks between (O29). -/

namespace Sys2Proof.Machine

/-! ### The window transactions (rules R213 to R215) -/

/-- Rule R214: the bypass verdict discards the write. -/
theorem State.windowWrite_bypassed {s : State} (h : s.hostWriteBypass = true) (a : Offset) (v : Byte) :
    s.windowWrite a v = s := if_pos h

/-- Rule R213: a write without the bypass verdict stores the byte. -/
theorem State.windowWrite_stored {s : State} (h : s.hostWriteBypass = false) (a : Offset) (v : Byte) :
    s.windowWrite a v = s.memWrite a v := if_neg (by simp [h])

/-- The word with K = 2 runs the window write of its fields A and D. -/
theorem decode_memwWord (p : Params) (a : Offset) (v : Byte) :
    decode p ((0x20 : BitVec 8) ++ a ++ v) = .ok (.memw a v) := by
  have word : (0x20 : BitVec 8) ++ a ++ v = transactionWord 2 a v := rfl
  rw [word]
  simp [decode]

/-- The word with K = 3 runs the window read at its field A, whatever D is (rule R85). -/
theorem decode_memrWord (p : Params) (a : Offset) (d : Byte) :
    decode p ((0x30 : BitVec 8) ++ a ++ d) = .ok (.memr a) := by
  have word : (0x30 : BitVec 8) ++ a ++ d = transactionWord 3 a d := rfl
  rw [word]
  simp [decode]

theorem exec_memw_live {s : State} (hlive : s.lifecycle = .live) (a : Offset) (v : Byte) :
    exec (.memw a v) s = .next (s.windowWrite a v) := State.whenLive_live hlive _

theorem exec_memr_live {s : State} (hlive : s.lifecycle = .live) (a : Offset) :
    exec (.memr a) s = .next (s.answer (s.memRead a)) := State.whenLive_live hlive _

/-- Rule R213: the whole effect of a window write that the host does not bypass. -/
theorem exec_memw_stored {s : State} (hlive : s.lifecycle = .live) (hbypass : s.hostWriteBypass = false) (a : Offset)
    (v : Byte) : exec (.memw a v) s = .next (s.memWrite a v) := by
  rw [exec_memw_live hlive, State.windowWrite_stored hbypass]

/-! ### Runs through the window -/

/-- A step that takes a window write without the bypass verdict from the queue of a live device. -/
theorem step_windowWrite {s : State} (hlive : s.lifecycle = .live) {a : Offset} {v : Byte} {r : Request}
    {rest : List Request} (hpending : s.pending = r :: rest) (hword : r.word = (0x20 : BitVec 8) ++ a ++ v)
    (hbypass : r.writeBypass = false) : step s = .next ((s.accept r rest).memWrite a v) := by
  have hdecode : decode s.params r.word = .ok (.memw a v) := by rw [hword, decode_memwWord]
  exact (step_runs hpending hdecode).trans (exec_memw_stored (s := s.accept r rest) hlive hbypass a v)

/-- A step that takes a window read from the queue of a live device. -/
theorem step_windowRead {s : State} (hlive : s.lifecycle = .live) {a : Offset} {d : Byte} {r : Request}
    {rest : List Request} (hpending : s.pending = r :: rest) (hword : r.word = (0x30 : BitVec 8) ++ a ++ d) :
    step s = .next ((s.accept r rest).answer (s.memRead a)) := by
  have hdecode : decode s.params r.word = .ok (.memr a) := by rw [hword, decode_memrWord]
  exact (step_runs hpending hdecode).trans (exec_memr_live (s := s.accept r rest) hlive a)

/-- Any number of ticks leaves VRAM as it was on a device that stays live, and every longer run goes on from there. -/
theorem run_ticks (rest : List Request) (n : Nat) : ∀ {s : State}, s.lifecycle = .live →
    s.pending = List.replicate n tickRequest ++ rest →
    ∃ t : State, (∀ m, Host.Core.run core (m + n) s = Host.Core.run core m t) ∧ t.lifecycle = .live ∧
      t.pending = rest ∧ t.vram = s.vram := by
  induction n with
  | zero => exact fun {s} hlive hpending => ⟨s, fun _ => rfl, hlive, hpending, rfl⟩
  | succ n ih =>
    intro s hlive hpending
    let accepted := s.accept tickRequest (List.replicate n tickRequest ++ rest)
    have hstep : step s = .next accepted.advance := step_tickRequest hlive hpending
    have hset := accepted.advance_setup
    obtain ⟨t, hrun, htlive, htpending, htvram⟩ := ih (hset.lifecycle.trans hlive) hset.pending
    exact ⟨t, fun m => (run_succ hstep _).trans (hrun m), htlive, htpending, htvram.trans hset.vram⟩

end Sys2Proof.Machine

namespace Sys2Proof.Proofs

open Sys2Proof.Machine

/-- Settles O26: the next state is that of `State.memWrite`, whose reads are the laws of VRAM. -/
theorem windowWriteStoresOneByte : Obligations.WindowWriteStoresOneByte := fun s a v hlive hwf hbypass =>
  ⟨s.memWrite a v, exec_memw_stored hlive hbypass a v, s.memRead_memWrite_self a v hwf,
    fun _ hb => s.memRead_memWrite_other v hb, s.memWrite_keeps_wf a v hwf, rfl⟩

/-- Settles O29: the ticks keep VRAM, so the read answers what the write left at its offset. -/
theorem windowRoundTripThroughTicks : Obligations.WindowRoundTripThroughTicks := by
  intro s a v d n rest hlive hwf hpending
  let queue := List.replicate n tickRequest ++ { word := (0x30 : BitVec 8) ++ a ++ d } :: rest
  let written := (s.accept { word := (0x20 : BitVec 8) ++ a ++ v } queue).memWrite a v
  have hwrite : step s = .next written := step_windowWrite hlive hpending rfl rfl
  obtain ⟨t, hticks, htlive, htpending, htvram⟩ := run_ticks (s := written) _ n hlive rfl
  have hread := step_windowRead htlive htpending rfl
  have hbyte : t.memRead a = v := by
    rw [State.memRead, htvram]
    exact s.memRead_memWrite_self a v hwf
  have hrun := calc Host.Core.run core (n + 2) s
    _ = Host.Core.run core (n + 1) written := run_succ hwrite _
    _ = Host.Core.run core 1 t := by rw [Nat.add_comm, hticks]
    _ = .next _ := run_succ hread 0
  exact ⟨_, hrun, congrArg some hbyte⟩

/-- Settles O27: the write is the discarded one of rule R214. -/
theorem bypassedWindowWriteIsDiscarded : Obligations.BypassedWindowWriteIsDiscarded := fun _ a v hlive hbypass =>
  (exec_memw_live hlive a v).trans (congrArg _ (State.windowWrite_bypassed hbypass a v))

/-- Settles O28: the word decodes to the read, which answers the byte of `State.memRead`. -/
theorem windowReadReturnsTheByte : Obligations.WindowReadReturnsTheByte := fun s a d hlive =>
  ⟨decode_memrWord s.params a d, exec_memr_live hlive a⟩

end Sys2Proof.Proofs

/-! The statement of spec/60_exceptions.md: a host that sends the scale 0 (O10). -/

namespace Sys2Proof.Machine

/-! ### A scale that is not positive (rules R234, R236 and R241) -/

/-- The counterpart of `State.whenScalePositive_pos`: a host that sends the scale 0 breaks its duty. -/
theorem State.whenScalePositive_zero {s : State} (h : s.hostTickScale = 0)
    (o : Host.Outcome State Fault Refusal) : s.whenScalePositive o = .refused .tickScaleNotPositive := if_pos h

/-- Where there is no device yet, the scale 0 refuses INIT. -/
theorem exec_init_uncreated_zero {s : State} (h : s.lifecycle = .uncreated) (hs : s.hostTickScale = 0) :
    exec .init s = .refused .tickScaleNotPositive := by
  simp only [exec, execInit, h, State.whenScalePositive_zero hs]

/-- On a live device the scale 0 refuses SPEED. -/
theorem exec_speed_live_zero {s : State} (h : s.lifecycle = .live) (hs : s.hostTickScale = 0) :
    exec .speed s = .refused .tickScaleNotPositive := by
  simp only [exec, execSpeed, h, State.whenScalePositive_zero hs]

end Sys2Proof.Machine

namespace Sys2Proof.Proofs

open Sys2Proof.Machine

/-- Settles O10: each of the two transactions meets the scale's guard where rule R240 lets it run. -/
theorem initAndSpeedRefuseScaleZero : Obligations.InitAndSpeedRefuseScaleZero := fun _ hscale =>
  ⟨fun hnone => exec_init_uncreated_zero hnone hscale, fun hlive => exec_speed_live_zero hlive hscale⟩

end Sys2Proof.Proofs

/-! The statements of spec/70_reset_and_hazards.md: the transactions outside the device's lifetime (O6), CLOSE (O11) and
the ticks with the reset registers (O52). -/

namespace Sys2Proof.Machine

/-! ### The lifetime of the device (rules R239 and R240) -/

/-- Before INIT a transaction that needs a live device is refused. -/
theorem State.whenLive_uncreated {s : State} (h : s.lifecycle = .uncreated) (t : State) :
    s.whenLive t = .refused .beforeInit := by
  simp only [State.whenLive, h]

/-- Rule R240: before INIT every other transaction is refused. -/
theorem exec_uncreated {i : Instr} (hinit : i ≠ .init) {s : State} (h : s.lifecycle = .uncreated) :
    exec i s = .refused .beforeInit := by
  cases i with
  | init => exact absurd rfl hinit
  | speed => simp only [exec, execSpeed, h]
  | _ => exact State.whenLive_uncreated h _

/-- Rule R240: a live device refuses a second INIT. -/
theorem exec_init_live {s : State} (h : s.lifecycle = .live) : exec .init s = .refused .secondInit := by
  simp only [exec, execInit, h]

/-- Rule R82: a word with K = 6 and Z = 0 is CLOSE. -/
theorem decode_of_kind_close (p : Params) {w : Word32} (hz : reservedField w = 0) (hk : kindField w = 6) :
    decode p w = .ok .close := by
  simp [decode, hz, hk]

/-- Rule R85: CLOSE ignores A and D. -/
theorem decode_closeWord (p : Params) (x : BitVec 24) : decode p ((0x60 : BitVec 8) ++ x) = .ok .close := by
  have hz : reservedField ((0x60 : BitVec 8) ++ x) = 0 :=
    BitVec.extractLsb'_append_eq_of_le (xhi := 0x60#8) (xlo := x) (by decide)
  have hk : kindField ((0x60 : BitVec 8) ++ x) = 6 :=
    BitVec.extractLsb'_append_eq_of_le (xhi := 0x60#8) (xlo := x) (by decide)
  exact decode_of_kind_close p hz hk

/-! ### The active half with the reset registers (rule R243) -/

/-- The registers, and the fields of the scan that no active half moves under them, have their reset values. -/
structure State.ScanAtReset (s : State) : Prop where
  regs : ∀ i, s.reg i = 0
  row : s.verticalCounter = 0
  scanline : s.scanlineCounter = 0
  adjust : s.verticalAdjustRemaining = 0
  display : s.displayActive = false
  address : s.memoryAddress = 0
  rowStart : s.memoryAddressBackup = 0
  cursor : s.cursorVisible = false
  blink : s.blinkCounter = 0

/-- The scanline counter is at its own row. -/
theorem State.atCursorRow_self (s : State) : s.atCursorRow s.scanlineCounter = true := by
  simp [State.atCursorRow]

namespace State.ScanAtReset

variable {s : State}

/-- Every row is the frame's last, at row 0 (rule R145). -/
theorem rowEnd (h : s.ScanAtReset) : s.rowEnd = true := by
  rw [s.rowEnd_iff, h.scanline, h.regs]
  exact .inl rfl

theorem wraps (h : s.ScanAtReset) : s.verticalCounter.toNat = (s.reg 4).toNat := by
  rw [h.row, h.regs]
  rfl

/-- The row after is row 0 again, the vertical-sync row (rule R154). -/
theorem rowAfter (h : s.ScanAtReset) : s.rowAfter = (s.reg 7).toNat := by
  rw [State.rowAfter_last h.wraps, h.regs]
  rfl

/-- Blinking gates the cursor, and its counter is 0 (rule R153). -/
theorem cursorGate (h : s.ScanAtReset) : s.cursorGate = false := by
  rw [s.cursorGate_eq, h.regs, h.blink]
  decide

/-- Rules R148 and R160: the cursor window closes on row 0 and opens again on row 0. -/
theorem advance_cursorWindow (h : s.ScanAtReset) (hhalf : s.lineInFramePosition = true)
    (hline : s.advance.scanlineCounter = 0) :
    s.advance.cursorEnabledWindow = true ∧ s.advance.cursorDisabledWindow = true := by
  have hstart : s.cursorStartRow = s.advance.scanlineCounter := by
    rw [State.cursorStartRow, h.regs, hline]
    rfl
  have hend : s.cursorEndRow = s.scanlineCounter := by
    rw [State.cursorEndRow, h.regs, h.scanline]
    rfl
  obtain ⟨hon, hoff⟩ := State.advance_cursorWindow hhalf
  rw [hon, hoff, hstart, hend, State.atCursorRow_self, State.atCursorRow_self, Bool.or_true, Bool.or_true]
  exact ⟨rfl, rfl⟩

/-- Rules R145 to R160: the frame wraps to the vertical-sync row 0, which arms the countdown and ends no frame. The scan
stands where it stood. -/
theorem advance_active (h : s.ScanAtReset) (hhalf : s.lineInFramePosition = true)
    (hcount : s.verticalSyncRemaining ≠ 1) : s.advance =
    { s with
      events := s.events ++ [.schedule s.visiblePeriodTicks]
      accumulatedDeviceTime := s.accumulatedDeviceTime + s.visiblePeriodTicks
      lineInFramePosition := false
      displayLine := 0
      verticalSyncRemaining := 16
      cursorEnabledWindow := true
      cursorDisabledWindow := true } := by
  have hframe := State.advance_syncRowZero_wrap hhalf h.adjust h.rowEnd h.wraps (h.regs 7)
  have hline : s.advance.scanlineCounter = 0 := congrArg State.scanlineCounter hframe
  have hstatus : s.advance.status = s.status := by
    rw [State.advance_status hhalf, h.display, if_neg hcount]
    exact BitVec.and_allOnes.trans BitVec.and_allOnes
  have hsync := State.advance_armed hhalf h.adjust h.rowEnd h.rowAfter
  obtain ⟨hon, hoff⟩ := h.advance_cursorWindow hhalf hline
  calc s.advance
    _ = (s.advance.withFlagsOf s).withFlagsOf s.advance := rfl
    _ = _ := by
      rw [hframe, State.withFlagsOf, hstatus, hsync, hon, hoff, State.startAddress_eq, h.cursorGate]
      simp only [h.regs, h.row, h.scanline, h.adjust, h.display, h.address, h.rowStart, h.cursor]
      rfl

end State.ScanAtReset
/-! ### Scanlines with the reset registers -/

/-- With the reset registers, a state before a blank half: of the first scanline (`scanned = false`), or of a later
one. -/
def State.resetBeforeBlank (scanned : Bool) (time : Nat) (log : List Event) (queue : List Request) : State :=
  { State.reset with
    status := if scanned then 0x09 else 0
    verticalSyncRemaining := if scanned then 16 else 0
    cursorEnabledWindow := scanned
    cursorDisabledWindow := scanned
    accumulatedDeviceTime := time
    events := log
    pending := queue }

/-- With the reset registers, a state between the two halves of the first scanline (`scanned = false`), or of a later
one. -/
def State.resetBeforeActive (scanned : Bool) (time : Nat) (log : List Event) (queue : List Request) : State :=
  { State.resetBeforeBlank scanned time log queue with
    status := 0x09
    displayLine := 1
    lineInFramePosition := true }

section
variable (scanned : Bool) (time : Nat) (log : List Event) (queue : List Request)

theorem State.resetBeforeBlank_reg (i : BitVec 5) : (State.resetBeforeBlank scanned time log queue).reg i = 0 :=
  Proofs.reset_reg i

theorem State.resetBeforeBlank_status :
    (State.resetBeforeBlank scanned time log queue).status = if scanned then 0x09 else 0 := rfl

theorem State.resetBeforeActive_scan : (State.resetBeforeActive scanned time log queue).ScanAtReset where
  regs i := Proofs.reset_reg i
  row := rfl
  scanline := rfl
  adjust := rfl
  display := rfl
  address := rfl
  rowStart := rfl
  cursor := rfl
  blink := rfl

/-- The blank half renders nothing, and sets VSYNC since row and scanline are 0 (rules R139, R143 and R144). -/
theorem step_resetBeforeBlank : step (State.resetBeforeBlank scanned time log (tickRequest :: queue)) =
    .next (State.resetBeforeActive scanned (time + 1) (log ++ [.schedule 1]) queue) := by
  have hadvance : (State.resetBeforeBlank scanned time log queue).advance =
      State.resetBeforeActive scanned (time + 1) (log ++ [.schedule 1]) queue := by
    rw [State.advance_blank rfl, State.blankHalf_dark rfl, State.resetBeforeBlank_reg, if_pos ⟨rfl, rfl⟩,
      State.resetBeforeBlank_status]
    cases scanned <;> rfl
  exact (step_tickRequest rfl rfl).trans (congrArg _ hadvance)

/-- After an active half every scanline stands as after the first. -/
theorem step_resetBeforeActive : step (State.resetBeforeActive scanned time log (tickRequest :: queue)) =
    .next (State.resetBeforeBlank true time (log ++ [.schedule 0]) queue) := by
  have hcount : (State.resetBeforeActive scanned time log queue).verticalSyncRemaining ≠ 1 := by
    cases scanned <;> exact ne_of_beq_false rfl
  exact (step_tickRequest rfl rfl).trans
    (congrArg _ ((State.resetBeforeActive_scan scanned time log queue).advance_active rfl hcount))

end

/-- The events of `n` scanlines with the reset registers: the blank period is 1 and the visible one is 0. -/
def resetSchedule (n : Nat) : List Event := (List.replicate n [Event.schedule 1, Event.schedule 0]).flatten

theorem resetSchedule_succ (n : Nat) : resetSchedule (n + 1) = [.schedule 1, .schedule 0] ++ resetSchedule n := by
  rw [resetSchedule, List.replicate_succ, List.flatten_cons, resetSchedule]

/-- The two ticks of one scanline. -/
theorem run_resetScanline (m : Nat) (scanned : Bool) (time : Nat) (log : List Event) (queue : List Request) :
    Host.Core.run core (m + 2)
      (State.resetBeforeBlank scanned time log (tickRequest :: tickRequest :: queue)) =
    Host.Core.run core m (State.resetBeforeBlank true (time + 1) (log ++ [.schedule 1, .schedule 0]) queue) := by
  rw [run_succ (step_resetBeforeBlank ..), run_succ (step_resetBeforeActive ..), List.append_assoc]
  rfl

/-- By induction on the scanlines after the first: however many they are, they leave the state of a later one. -/
theorem run_resetScanlines (m n : Nat) (queue : List Request) : ∀ (scanned : Bool) (time : Nat) (log : List Event),
    Host.Core.run core (m + 2 * (n + 1))
      (State.resetBeforeBlank scanned time log (List.replicate (2 * (n + 1)) tickRequest ++ queue)) =
    Host.Core.run core m (State.resetBeforeBlank true (time + (n + 1)) (log ++ resetSchedule (n + 1)) queue) := by
  induction n with
  | zero => exact fun scanned time log => run_resetScanline m scanned time log queue
  | succ n ih =>
    intro scanned time log
    have hlog : log ++ [.schedule 1, .schedule 0] ++ resetSchedule (n + 1) = log ++ resetSchedule (n + 2) := by
      rw [List.append_assoc, ← resetSchedule_succ]
    have htime : time + 1 + (n + 1) = time + (n + 2) := by omega
    rw [← hlog, ← htime]
    exact (run_resetScanline _ scanned time log _).trans (ih true (time + 1) _)

end Sys2Proof.Machine

namespace Sys2Proof.Proofs

open Sys2Proof.Machine

/-- Settles O6: where there is no device, on a live one and after CLOSE. -/
theorem transactionsOutsideTheLifetimeAreRefused : Obligations.TransactionsOutsideTheLifetimeAreRefused := fun i _ =>
  ⟨fun hnone hinit => exec_uncreated hinit hnone, fun hlive hinit => hinit ▸ exec_init_live hlive,
    fun hclosed => exec_closed i hclosed⟩

/-- Settles O11: the word decodes to CLOSE, whose effect is `State.withLifecycle`. -/
theorem closeOnlyEndsTheDevice : Obligations.CloseOnlyEndsTheDevice := fun s x hlive =>
  ⟨decode_closeWord s.params x, State.whenLive_live hlive _⟩

/-- Settles O52: the reset state is the state before the first scanline, and an odd number of ticks ends in a blank
half. -/
theorem resetRegistersTickInPlace : Obligations.ResetRegistersTickInPlace := by
  refine ⟨⟨_, run_succ (step_resetBeforeBlank false 0 State.reset.events []) 0, rfl⟩, fun n hn => ?later⟩
  obtain ⟨n, rfl⟩ := Nat.exists_eq_add_one_of_ne_zero hn.ne'
  refine ⟨⟨_, ?even, rfl⟩, ⟨_, ?odd, rfl⟩⟩
  case even =>
    have hrun := run_resetScanlines 0 n [] false 0 State.reset.events
    rw [List.append_nil, Nat.zero_add, Nat.zero_add] at hrun
    exact hrun
  case odd =>
    have hrun := run_resetScanlines 1 n [tickRequest] false 0 State.reset.events
    rw [← List.replicate_succ', Nat.add_comm 1, Nat.zero_add] at hrun
    exact hrun.trans (run_succ (step_resetBeforeBlank ..) 0)

end Sys2Proof.Proofs
